-- ==== Sys2Proof/Word.lean ====
section
/-!
DEFINITION. The words of the part: what the manual sends, counts modulo a power of two, or packs into bytes.
-/

namespace Sys2Proof

/-- One character of a serial line, one byte of a frame (R175, R183). -/
abbrev Byte := BitVec 8

/-- A two-byte field of a payload, most significant byte first (R176, Table 11-3 note 3). -/
abbrev Half := BitVec 16

/-- A 32-bit count that wraps: the time counter (R68) and the journal's sequence number (R155). -/
abbrev Word := BitVec 32

/-- The 64 flags of one slot, output `o` in bit `o`: the packing of a slot word and of the sense flags (R183). -/
abbrev Flags := BitVec 64

end Sys2Proof
end

