-- ==== Sys2Proof/Syntax.lean ====
section
/-!
DEFINITION. The commands of the part: one constructor of `Instr` for each row of spec/opcode_table.json, with the
row's operands. A request's operands are the fields of its payload as they stand in the bytes (any value a byte can
hold); an event's operands are what the world outside the part decides at it.
-/

namespace Sys2Proof

/-- The two panel loops (Terms; loop A has loop index 0, loop B loop index 1). -/
inductive Loop where
  | a
  | b
  deriving DecidableEq, Repr

/-- The three cadence generators (R70). -/
inductive Generator where
  | fast
  | slow
  | wink
  deriving DecidableEq, Repr

/-- One character received on a serial line: its data byte, and whether its stop bit was read HIGH
(LOW is a framing error, R175, R183). -/
structure RxChar where
  byte   : Byte
  stopOk : Bool
  deriving DecidableEq, Repr

/-- The levels of the four strap pins, `true` for HIGH (R173, Table 11-22). -/
structure Straps where
  rate0       : Bool
  rate1       : Bool
  testAtStart : Bool
  supvAuto    : Bool
  deriving DecidableEq, Repr

/-- The levels of the eight desk pins, `true` for HIGH (R50, Table 3-1). -/
structure DeskPins where
  ack         : Bool
  silence     : Bool
  lampTest    : Bool
  allSections : Bool
  sel0        : Bool
  sel1        : Bool
  sel2        : Bool
  sel3        : Bool
  deriving DecidableEq, Repr

/-- The fields of a DEFINE POINT payload (Table 11-7), as they stand in its bytes. -/
structure DefineArgs where
  point      : Half
  kind       : Byte
  outstation : Byte
  sect       : Byte
  priority   : Byte
  ringBack   : Byte
  lampCount  : Byte
  lamps      : List Half
  deriving DecidableEq, Repr

/-- One update of UPDATE POINTS: a point number and a value (R15). -/
structure Update where
  point : Half
  value : Byte
  deriving DecidableEq, Repr

/-- The commands: the requests of the host, and the events of the part's own blocks and pins. -/
inductive Instr where
  /-- READ STATUS (R171). -/
  | readStatus
  /-- SET MODE with mode code 1 (R162). -/
  | setModeOnline
  /-- SET MODE with mode code 0 (R163). -/
  | setModeOffline
  /-- The RESET request (R174). -/
  | reset
  /-- The end of the RESET reply's transmission (R174). -/
  | softwareReset
  /-- RUN TEST with a test kind code (R166). -/
  | runTest (kind : Byte)
  /-- The memory checker completes; `passed` tells whether every cell read back as written (R167). -/
  | memoryTestCompletion (passed : Bool)
  /-- ABORT TEST (R170). -/
  | abortTest
  /-- READ TEST RESULTS (R172). -/
  | readTestResults
  /-- DEFINE POINT (R12, R13). -/
  | definePoint (args : DefineArgs)
  /-- DELETE POINT (R14). -/
  | deletePoint (point : Half)
  /-- READ POINT (R21). -/
  | readPoint (point : Half)
  /-- UPDATE POINTS (R15, R16). -/
  | updatePoints (updates : List Update)
  /-- FORCE POINT (R17). -/
  | forcePoint (point : Half) (value : Byte)
  /-- RELEASE POINT (R18). -/
  | releasePoint (point : Half)
  /-- INHIBIT POINT (R19). -/
  | inhibitPoint (point : Half)
  /-- ENABLE POINT (R20). -/
  | enablePoint (point : Half)
  /-- ACKNOWLEDGE with a scope code and an argument (R39). -/
  | acknowledge (scope : Byte) (argument : Half)
  /-- The SILENCE request (R45). -/
  | silence
  /-- READ ANNUNCIATION from a start position, up to a count (R46). -/
  | readAnnunciation (start : Half) (count : Byte)
  /-- SET HORN THRESHOLD (R37). -/
  | setHornThreshold (value : Byte)
  /-- SET DESK CONTROL with an enable code and a sample period (R61). -/
  | setDeskControl (enable : Byte) (period : Byte)
  /-- The sample timer's expiry, with the levels standing at the desk pins (R52). -/
  | deskSample (pins : DeskPins)
  /-- One tick of the 1 ms time base (R67). -/
  | tick
  /-- The expiry of a generator's prescale counter (R71). -/
  | prescaleExpiry (generator : Generator)
  /-- The expiry of a generator's phase counter (R72). -/
  | phaseToggle (generator : Generator)
  /-- SET CADENCE (R74 to R77). -/
  | setCadence (generator : Byte) (prescale : Half) (lit : Byte) (dark : Byte) (run : Byte)
  /-- SET TIME (R69). -/
  | setTime (time : Word)
  /-- The start of a compose pass (R84, R86). -/
  | passStart
  /-- The completion of the compose pass in flight (R88). -/
  | passCompletion
  /-- The expiry of a loop's frame timer (R104). -/
  | frameTimerExpiry (loop : Loop)
  /-- A frame start of a loop (R106, R168). -/
  | frameStart (loop : Loop)
  /-- The end of the slot transfer a loop is in, with the characters that came within its reply window
  (R111, R113, R183). -/
  | slotEnd (loop : Loop) (window : List RxChar)
  /-- The end of the frame a loop is in (R109, R168). -/
  | frameEnd (loop : Loop)
  /-- CONFIGURE TILE (R118). -/
  | configureTile (loop : Byte) (slot : Byte) (size : Byte) (enable : Byte)
  /-- SET LOOP TIMING (R105). -/
  | setLoopTiming (loop : Byte) (period : Half)
  /-- SET INTENSITY (R119). -/
  | setIntensity (value : Byte)
  /-- READ LOOP STATUS (R120). -/
  | readLoopStatus (loop : Byte)
  /-- The LAMP TEST request (R165). -/
  | lampTest (duration : Byte)
  /-- The expiry of the host lamp-test timer (R164). -/
  | hostTimerExpiry
  /-- READ LAMP FAULTS (R135). -/
  | readLampFaults (start : Half)
  /-- The expiry of the link countdown (R139). -/
  | linkCountdownExpiry
  /-- The expiry of an outstation's countdown (R144). -/
  | outstationCountdownExpiry (outstation : Fin 128)
  /-- SET SUPERVISION (R141, R142). -/
  | setSupervision (mode : Byte) (period : Byte)
  /-- SET OUTSTATION PERIODS (R146). -/
  | setOutstationPeriods (first : Byte) (periods : List Half)
  /-- SITE HEARTBEAT (R145). -/
  | siteHeartbeat (outstations : List Byte)
  /-- READ OUTSTATIONS (R147). -/
  | readOutstations (first : Byte) (count : Byte)
  /-- READ JOURNAL (R158). -/
  | readJournal (count : Byte)
  /-- SET JOURNAL SELECTION (R154). -/
  | setJournalSelection (values : List Byte)
  /-- A character received on RXD (R177). -/
  | characterReceived (char : RxChar)
  /-- The expiry of the receiver's gap timer (R177). -/
  | gapTimerExpiry
  /-- The service of the request queue's head item begins (R179). -/
  | serviceBegin
  /-- The assertion of RESET (R173). -/
  | hardwareResetAssert
  /-- The negation of RESET, or power-up, with the levels of the straps (R173). -/
  | hardwareResetNegation (straps : Straps)
  deriving DecidableEq, Repr

end Sys2Proof
end

