-- ==== Sys2Proof/Decode.lean ====
section
/-!
DEFINITION. The command a word of spec/opcode_table.json spells. The table of this hardware gives no row any bits
(every row's "fields" is empty and none has "fixed"), so no word spells a command. Requests reach the part as framed
bytes; their kinds and payloads are read in Machine/Operands.lean and Machine/Link.lean (R176, R179).
-/

namespace Sys2Proof

/-- The command that the `nbits` bits of `w` spell by the table's bits: none, because no row gives bits. -/
def decodeTableWord (_nbits _w : Nat) : Option Instr :=
  none

end Sys2Proof
end

