-- ==== Sys2Proof/Config.lean ====
section
/-!
DEFINITION. What revision A fixes (identity, capacities) and the one free value of the model.
-/

namespace Sys2Proof

/-- Vendor code of READ STATUS (Introduction, Identity; R171). -/
def Config.vendorCode : Nat := 0x4B

/-- Part code of READ STATUS (R171). -/
def Config.partCode : Nat := 4096

/-- Revision code of READ STATUS for revision A (R171). -/
def Config.revisionCode : Nat := 1

/-- Entries the journal's ring holds at most (R155). -/
def Config.ringCapacity : Nat := 256

/-- Detail items the detail store holds at most (R155). -/
def Config.detailCapacity : Nat := 1024

/-- Bytes left for entries in a READ JOURNAL reply (R158). -/
def Config.journalReplySpace : Nat := 1018

/-- Items the request queue holds at most (R178). -/
def Config.queueCapacity : Nat := 4

/-- FREE VALUE (log entry 5). How many lamps further the pass in flight has come when the `k`-th change of what a
pass reads is made: R88 fixes no length of a pass and R98 lets any lamp be composed before or after such a change.
Nothing constrains it. -/
opaque Config.passProgress : Nat → Nat

end Sys2Proof
end

