-- ==== Sys2Proof/Machine/State.lean ====
section
/-!
DEFINITION. The state of the part: every element of state the manual gives a block, as plain data, one structure for
each block of Table 0-1, and the machine right after a hardware reset.
-/

namespace Sys2Proof.Machine

/-! ### Containers and timers -/

/-- A bank of `n` like things, numbered from 0. -/
structure Bank (n : Nat) (α : Type) where
  rows : List α
  size : rows.length = n
  deriving DecidableEq, Repr

/-- The bank whose every row is `a`. -/
def Bank.fill (n : Nat) {α : Type} (a : α) : Bank n α :=
  ⟨List.replicate n a, List.length_replicate⟩

/-- A table keyed by number, its listed keys rising; a key not listed is absent. -/
structure Sparse (α : Type) where
  cells : List (Nat × α)
  deriving DecidableEq, Repr

/-- A timer that counts ticks. `stopped` holds the value the manual lets a stopped timer keep (0 where it names none);
`counting` holds the ticks left; `expired` is a timer whose last tick has come and whose expiry is due (log entry 4). -/
inductive Timer where
  | stopped (held : Nat)
  | counting (left : Nat)
  | expired
  deriving DecidableEq, Repr

/-! ### Point Store (chapter 1) -/

/-- The kind of a point (Table 1-1). -/
inductive PointKind where
  | status
  | alarm
  | band
  deriving DecidableEq, Repr

/-- The alarm states of Table 2-1. -/
inductive AlarmState where
  | normal
  | alarmUnack
  | alarmAck
  | clearedUnack
  deriving DecidableEq, Repr

/-- The record of a defined point (Table 1-1). `alarm` is present for an ALARM point only (R1). -/
structure PointRecord where
  kind       : PointKind
  outstation : Fin 128
  sect       : Fin 16
  priority   : Fin 4
  ringBack   : Bool
  inhibited  : Bool
  lamps      : List (Fin 4096)
  live       : Option Nat
  forced     : Option Nat
  alarm      : Option AlarmState
  lastChange : Option Word
  deriving DecidableEq, Repr

/-- The Point Table (an unlisted point is undefined, R1) and the lamp ownership map (an unlisted lamp is FREE, R6). -/
structure PointStore where
  table  : Sparse PointRecord
  owners : Sparse Nat
  deriving DecidableEq, Repr

/-! ### Alarm Unit (chapter 2) -/

/-- One entry of the Annunciation List (Table 2-4). -/
structure AnnEntry where
  point     : Nat
  priority  : Fin 4
  sect      : Fin 16
  entryTime : Word
  mark      : Bool
  deriving DecidableEq, Repr

/-- The HORN output state (Table 2-8). -/
inductive Horn where
  | quiet
  | steady
  | pulsed
  deriving DecidableEq, Repr

/-- The Alarm Unit: the list from head to tail, the horn threshold, the HORN state and the HORN signal
(`true` when asserted). -/
structure AlarmUnit where
  list      : List AnnEntry
  threshold : Fin 4
  horn      : Horn
  hornPin   : Bool
  deriving DecidableEq, Repr

/-! ### Desk Unit (chapter 3) -/

/-- The filter record of one desk input (R51): filtered level, candidate, count. For a key `true` is PRESSED, for the
ALL SECTIONS switch ON. -/
structure Filter (α : Type) where
  level     : α
  candidate : Option α
  count     : Nat
  deriving DecidableEq, Repr

/-- The Desk Unit (Table 3-2), with the levels standing at its pins. -/
structure DeskUnit where
  ack         : Filter Bool
  silence     : Filter Bool
  lampTest    : Filter Bool
  allSections : Filter Bool
  selector    : Filter (Fin 16)
  enabled     : Bool
  period      : Nat
  timer       : Timer
  pins        : DeskPins
  deriving DecidableEq, Repr

/-! ### Cadence Unit (chapter 4) -/

/-- The phase of a generator (Table 4-2). -/
inductive Phase where
  | dark
  | lit
  deriving DecidableEq, Repr

/-- One cadence generator (Table 4-2). Its two counters are timers: the prescale counter counts ticks, the phase
counter cadence ticks. -/
structure CadenceGenerator where
  prescaleReload  : Nat
  litReload       : Nat
  darkReload      : Nat
  prescaleCounter : Timer
  phaseCounter    : Timer
  phase           : Phase
  running         : Bool
  deriving DecidableEq, Repr

/-- The Cadence Unit: the time counter (R68) and the three generators (R70). -/
structure CadenceUnit where
  time : Word
  fast : CadenceGenerator
  slow : CadenceGenerator
  wink : CadenceGenerator
  deriving DecidableEq, Repr

/-! ### Image Composer (chapter 5) -/

/-- A loop's compose request (R82). -/
inductive ComposeRequest where
  | none
  | waiting
  | inFlight
  deriving DecidableEq, Repr

/-- The pass in flight: its loop, whether it is discarded, the samples of R86, the number of lamps composed so far
and the flags written so far (R87; log entry 10). -/
structure Pass where
  loop      : Loop
  discarded : Bool
  fast      : Phase
  slow      : Phase
  wink      : Phase
  lampTest  : Bool
  intensity : Fin 16
  position  : Nat
  flags     : Bank 32 Flags
  deriving DecidableEq, Repr

/-- The Image Composer (Table 5-1): COMPOSING while a pass is present, IDLE otherwise. `elected` is the loop whose
pass start R84 has fixed and that is due at once. -/
structure Composer where
  pass       : Option Pass
  lastServed : Loop
  requestA   : ComposeRequest
  requestB   : ComposeRequest
  elected    : Option Loop
  deriving DecidableEq, Repr

/-! ### Loop Controllers (chapter 6) -/

/-- The state of a loop (R100). -/
inductive LoopState where
  | stopped
  | running
  | stopping
  | testing
  deriving DecidableEq, Repr

/-- The sizes of a tile (Table 6-3). -/
inductive TileSize where
  | s16
  | s32
  | s64
  deriving DecidableEq, Repr

/-- The states of a tile (R112). -/
inductive TileState where
  | disabled
  | joining
  | present
  | absent
  | mismatched
  deriving DecidableEq, Repr

/-- The record of one tile (Table 6-3). -/
structure Tile where
  size        : TileSize
  enabled     : Bool
  state       : TileState
  missStreak  : Nat
  replyStreak : Nat
  driveFault  : Bool
  deriving DecidableEq, Repr

/-- An image: 32 slots of 64 flags, and the frame intensity (R80). -/
structure Image where
  flags     : Bank 32 Flags
  intensity : Fin 16
  deriving DecidableEq, Repr

/-- The kind of a frame, as its header carries it (R108). -/
inductive FrameKind where
  | normal
  | test
  deriving DecidableEq, Repr

/-- The frame in transfer: its kind, the intensity of its header, and the slots whose transfers have not ended, in
ascending order; the first of them is in transfer now (R111). -/
structure Transfer where
  kind      : FrameKind
  intensity : Fin 16
  remaining : List (Fin 32)
  deriving DecidableEq, Repr

/-- One Loop Controller (Table 6-1). `line` holds the characters the loop sends after its last event (R106, R111,
R183), and is empty while the line is at its idle level. -/
structure LoopController where
  state        : LoopState
  period       : Nat
  timer        : Timer
  transfer     : Option Transfer
  startPending : Bool
  front        : Image
  back         : Image
  backComplete : Bool
  previous     : Bank 32 Flags
  latched      : Bank 32 (Option TileSize)
  thisReply    : Bank 32 Bool
  prevReply    : Bank 32 Bool
  repeated     : Bool
  tiles        : Bank 32 Tile
  line         : List Byte
  deriving DecidableEq, Repr

/-! ### Proving Unit (chapter 7) -/

/-- The verdicts of Table 7-2. -/
inductive Verdict where
  | unproven
  | good
  | dark
  | lit
  deriving DecidableEq, Repr

/-- The two kinds of fault a streak counts (Table 7-1). -/
inductive FaultKind where
  | dark
  | lit
  deriving DecidableEq, Repr

/-- The proving record of one lamp (Table 7-1). -/
structure ProvingRecord where
  verdict : Verdict
  streak  : Nat
  kind    : Option FaultKind
  deriving DecidableEq, Repr

/-! ### Supervision Unit (chapter 8) -/

/-- The link supervision modes (Table 8-1). -/
inductive LinkMode where
  | off
  | on
  | locked
  deriving DecidableEq, Repr

/-- The link states (Table 8-1). -/
inductive LinkState where
  | healthy
  | lost
  deriving DecidableEq, Repr

/-- The link supervision record (Table 8-1). -/
structure LinkRecord where
  mode      : LinkMode
  period    : Nat
  countdown : Timer
  state     : LinkState
  deriving DecidableEq, Repr

/-- The outstation states (Table 8-3). -/
inductive OutstationState where
  | unsupervised
  | healthy
  | failed
  deriving DecidableEq, Repr

/-- The record of one outstation (Table 8-3). -/
structure Outstation where
  period    : Nat
  countdown : Timer
  state     : OutstationState
  deriving DecidableEq, Repr

/-- The Supervision Unit. -/
structure SupervisionUnit where
  link        : LinkRecord
  outstations : Bank 128 Outstation
  deriving DecidableEq, Repr

/-! ### Journal Unit (chapter 9) -/

/-- The classes of an entry (Table 9-2). -/
inductive EntryClass where
  | alarm
  | ack
  | change
  | admin
  | lamp
  | tile
  | supervision
  | test
  | mode
  | operator
  deriving DecidableEq, Repr

/-- The sources of an entry (Table 9-3). -/
inductive Source where
  | host
  | desk
  | loopA
  | loopB
  | supervision
  | test
  | reset
  deriving DecidableEq, Repr

/-- The subject of an entry (Table 9-1). -/
inductive Subject where
  | none
  | point (number : Nat)
  | tile (loop : Loop) (slot : Fin 32)
  | outstation (number : Fin 128)
  deriving DecidableEq, Repr

/-- One journal entry with its detail items (Table 9-1). -/
structure JournalEntry where
  seq     : Word
  time    : Word
  cls     : EntryClass
  source  : Source
  subject : Subject
  old     : Byte
  new     : Byte
  details : List (Fin 64 × Verdict)
  deriving DecidableEq, Repr

/-- The selections of one section (R153). -/
structure Selection where
  alarm  : Bool
  ack    : Bool
  change : Bool
  admin  : Bool
  deriving DecidableEq, Repr

/-- The Journal Unit: the ring from oldest to newest (each entry's items stand in the detail store in this order,
R155), the next sequence number, the Journal Selection Table and the ATTN output. -/
structure JournalUnit where
  ring      : List JournalEntry
  nextSeq   : Word
  selection : Bank 16 Selection
  attn      : Bool
  deriving DecidableEq, Repr

/-! ### Mode Controller (chapter 10) -/

/-- The device mode (R162). -/
inductive DeviceMode where
  | offline
  | online
  deriving DecidableEq, Repr

/-- The kind of a test (Table 10-3). -/
inductive TestKind where
  | none
  | memory
  | loop
  deriving DecidableEq, Repr

/-- The state of a test (Table 10-3). -/
inductive TestState where
  | notRun
  | running
  | aborting
  | passed
  | failed
  | aborted
  deriving DecidableEq, Repr

/-- The result of one tile in a loop test (Table 10-3). -/
inductive TileResult where
  | notTested
  | pass
  | fail
  | noReply
  deriving DecidableEq, Repr

/-- The test record (Table 10-3); `powerUp` marks the power-up memory test, whose TEST entry has source RESET
(R161, R173). -/
structure TestRecord where
  kind    : TestKind
  state   : TestState
  framesA : Nat
  framesB : Nat
  results : Bank 64 TileResult
  powerUp : Bool
  deriving DecidableEq, Repr

/-- The Mode Controller. -/
structure ModeController where
  device    : DeviceMode
  hostTimer : Timer
  deskHold  : Bool
  test      : TestRecord
  deriving DecidableEq, Repr

/-! ### Link Interface (chapter 11) -/

/-- The states of the receiver (R177). -/
inductive ReceiverState where
  | hunt
  | length
  | body
  | check
  deriving DecidableEq, Repr

/-- One item of the request queue (R178): the body of a good frame, or a reject. -/
inductive QueueItem where
  | request (body : List Byte)
  | rejectCheck
  | rejectLength
  deriving DecidableEq, Repr

/-- A reply frame in transmission, every character of it (R176, R180), whether it is the OK reply to RESET, at whose
end the software reset is carried out (R174), and what is still to be sent, in thousandths of a bit time (R175). -/
structure Reply where
  frame   : List Byte
  ofReset : Bool
  left    : Nat
  deriving DecidableEq, Repr

/-- The Link Interface. -/
structure LinkInterface where
  receiver  : ReceiverState
  buffer    : List Byte
  gap       : Timer
  queue     : List QueueItem
  queueLost : Bool
  reply     : Option Reply
  deriving DecidableEq, Repr

/-! ### The part -/

/-- The state of the part: the commands waiting, the reset pin and the sampled straps, the twelve blocks, and the
model's own index into the free values (log entry 5). -/
structure State where
  pending     : List Instr
  inReset     : Bool
  straps      : Straps
  link        : LinkInterface
  points      : PointStore
  alarm       : AlarmUnit
  desk        : DeskUnit
  cadence     : CadenceUnit
  composer    : Composer
  loopA       : LoopController
  loopB       : LoopController
  intensity   : Fin 16
  proving     : Sparse ProvingRecord
  supervision : SupervisionUnit
  journal     : JournalUnit
  mode        : ModeController
  freeIndex   : Nat
  deriving DecidableEq, Repr

/-- Why a step stops the part: no command does, because the manual gives no event after which the part stops. -/
inductive Fault where
  deriving DecidableEq, Repr

/-- Why a command has no meaning. -/
inductive Refusal where
  /-- Raised by an arm of `exec` for a command without a meaning (none is left). Safe: nothing follows from it. -/
  | notModelled (mnemonic : String)
  deriving DecidableEq, Repr

/-! ### Reset values -/

/-- The table with no key listed. -/
def Sparse.empty {α : Type} : Sparse α :=
  ⟨[]⟩

/-- A generator just loaded with its reload values, in phase LIT (R78, R79). -/
def CadenceGenerator.loaded (prescale lit dark : Nat) (running : Bool) : CadenceGenerator where
  prescaleReload := prescale
  litReload := lit
  darkReload := dark
  prescaleCounter := .counting prescale
  phaseCounter := .counting lit
  phase := .lit
  running := running

/-- The all-dark image at an intensity (R81). -/
def Image.allDark (intensity : Fin 16) : Image :=
  ⟨Bank.fill 32 0, intensity⟩

/-- A tile record after a hardware reset (R121). -/
def Tile.initial : Tile :=
  ⟨.s64, false, .disabled, 0, 0, false⟩

/-- A loop right after a reset that leaves it the given period, intensity setting and tile records (R121, R122). -/
def LoopController.initial (period : Nat) (intensity : Fin 16) (tiles : Bank 32 Tile) : LoopController where
  state := .stopped
  period := period
  timer := .stopped 0
  transfer := none
  startPending := false
  front := Image.allDark intensity
  back := Image.allDark intensity
  backComplete := false
  previous := Bank.fill 32 0
  latched := Bank.fill 32 none
  thisReply := Bank.fill 32 false
  prevReply := Bank.fill 32 false
  repeated := false
  tiles := tiles
  line := []

/-- A proving record after a reset (R136). -/
def ProvingRecord.initial : ProvingRecord :=
  ⟨.unproven, 0, none⟩

/-- A filter record after a reset, at its reset level (R64, R65). -/
def Filter.initial {α : Type} (level : α) : Filter α :=
  ⟨level, none, 0⟩

/-- The Desk Unit after a reset that leaves it the given enable flag and sample period (R64, R65). -/
def DeskUnit.initial (enabled : Bool) (period : Nat) (pins : DeskPins) : DeskUnit where
  ack := Filter.initial false
  silence := Filter.initial false
  lampTest := Filter.initial false
  allSections := Filter.initial false
  selector := Filter.initial 0
  enabled := enabled
  period := period
  timer := .counting period
  pins := pins

/-- The desk pins with every contact open and every selector line LOW. DESIGN CHOICE (log entry 2): the levels at the
pins are the operator's, and no reset sets them. -/
def DeskPins.released : DeskPins :=
  ⟨true, true, true, true, false, false, false, false⟩

/-- The Cadence Unit after a hardware reset (R78, Table 4-1). -/
def CadenceUnit.initial : CadenceUnit where
  time := 0
  fast := CadenceGenerator.loaded 10 25 25 true
  slow := CadenceGenerator.loaded 10 50 50 true
  wink := CadenceGenerator.loaded 10 90 10 true

/-- The composer after either reset (R99). -/
def Composer.initial : Composer :=
  ⟨none, .b, .none, .none, none⟩

/-- An outstation after a hardware reset (R150). -/
def Outstation.initial : Outstation :=
  ⟨0, .stopped 0, .unsupervised⟩

/-- The Supervision Unit after a hardware reset with SUPV_AUTO sampled HIGH (`auto`) or LOW (R150). -/
def SupervisionUnit.initial (auto : Bool) : SupervisionUnit where
  link := ⟨if auto then .on else .off, 10, if auto then .counting 10000 else .stopped 10000, .healthy⟩
  outstations := Bank.fill 128 Outstation.initial

/-- The selections of a section after a hardware reset (R153). -/
def Selection.initial : Selection :=
  ⟨true, true, false, true⟩

/-- The journal with nothing in its ring, before the reset entry of R160 is appended. -/
def JournalUnit.initial : JournalUnit :=
  ⟨[], 0, Bank.fill 16 Selection.initial, false⟩

/-- The test record after a reset without a power-up test (Table 10-3). -/
def TestRecord.initial : TestRecord :=
  ⟨.none, .notRun, 0, 0, Bank.fill 64 .notTested, false⟩

/-- The Mode Controller after a reset without a power-up test (R173, R174). -/
def ModeController.initial : ModeController :=
  ⟨.offline, .stopped 0, false, TestRecord.initial⟩

/-- The Link Interface after a reset (R182). -/
def LinkInterface.initial : LinkInterface :=
  ⟨.hunt, [], .stopped 0, [], false, none⟩

/-- Every strap LOW. DESIGN CHOICE (log entry 1): the spec has the straps sampled at each reset and fixes no level. -/
def Straps.low : Straps :=
  ⟨false, false, false, false⟩

/-- The reset entry of a hardware reset: MODE, source RESET, old state 0xFF, new state 0x80, sequence number 0 and
time 0 (R160). -/
def JournalEntry.hardwareReset : JournalEntry :=
  ⟨0, 0, .mode, .reset, .none, 0xFF, 0x80, []⟩

/-- The part right after a hardware reset with every strap LOW and no command waiting. -/
def State.reset : State where
  pending := []
  inReset := false
  straps := Straps.low
  link := LinkInterface.initial
  points := ⟨Sparse.empty, Sparse.empty⟩
  alarm := ⟨[], 3, .quiet, false⟩
  desk := DeskUnit.initial true 4 DeskPins.released
  cadence := CadenceUnit.initial
  composer := Composer.initial
  loopA := LoopController.initial 40 12 (Bank.fill 32 Tile.initial)
  loopB := LoopController.initial 40 12 (Bank.fill 32 Tile.initial)
  intensity := 12
  proving := Sparse.empty
  supervision := SupervisionUnit.initial false
  journal := { JournalUnit.initial with ring := [JournalEntry.hardwareReset], nextSeq := 1, attn := true }
  mode := ModeController.initial
  freeIndex := 0

end Sys2Proof.Machine
end

