-- ==== Sys2Proof/Machine/Ops.lean ====
section
/-!
DEFINITION. The named operations the meanings share: banks and sparse tables, timers, byte order, frames and their
CRC, the journal's append, the update of one loop or one generator, and the taking of a command.
-/

namespace Sys2Proof.Machine

/-! ### Banks -/

/-- Row `i` of a bank. -/
def Bank.get {n : Nat} {α : Type} (b : Bank n α) (i : Fin n) : α :=
  b.rows[i.val]'(by rw [b.size]; exact i.isLt)

/-- The bank with row `i` replaced. -/
def Bank.put {n : Nat} {α : Type} (b : Bank n α) (i : Fin n) (a : α) : Bank n α :=
  ⟨b.rows.set i.val a, by rw [List.length_set, b.size]⟩

/-- The bank with every row passed through `f`. -/
def Bank.map {n : Nat} {α β : Type} (f : α → β) (b : Bank n α) : Bank n β :=
  ⟨b.rows.map f, by rw [List.length_map, b.size]⟩

/-- The bank whose row `i` is `f i`. -/
def Bank.make {n : Nat} {α : Type} (f : Fin n → α) : Bank n α :=
  ⟨List.ofFn f, List.length_ofFn⟩

/-! ### Sparse tables -/

/-- The value listed for key `k`, if any. -/
def Sparse.find {α : Type} (cells : List (Nat × α)) (k : Nat) : Option α :=
  match cells with
  | [] => none
  | (j, a) :: rest => if j = k then some a else Sparse.find rest k

/-- The value of key `k`, if it is listed. -/
def Sparse.get? {α : Type} (t : Sparse α) (k : Nat) : Option α :=
  Sparse.find t.cells k

/-- The list with `k` given the value `a`, at its place in rising order. -/
def Sparse.insert {α : Type} (k : Nat) (a : α) : List (Nat × α) → List (Nat × α)
  | [] => [(k, a)]
  | (j, b) :: rest =>
    if k < j then (k, a) :: (j, b) :: rest
    else if k = j then (k, a) :: rest
    else (j, b) :: Sparse.insert k a rest

/-- The table with `k` given the value `a`. -/
def Sparse.put {α : Type} (t : Sparse α) (k : Nat) (a : α) : Sparse α :=
  ⟨Sparse.insert k a t.cells⟩

/-- The table with `k` no longer listed. -/
def Sparse.erase {α : Type} (t : Sparse α) (k : Nat) : Sparse α :=
  ⟨t.cells.filter fun c => c.1 != k⟩

/-- The table with every listed value passed through `f`. -/
def Sparse.map {α : Type} (f : α → α) (t : Sparse α) : Sparse α :=
  ⟨t.cells.map fun c => (c.1, f c.2)⟩

/-- The canonical form: listed keys strictly rising. -/
abbrev Sparse.wf {α : Type} (t : Sparse α) : Prop :=
  (t.cells.map Prod.fst).Pairwise (· < ·)

/-! ### Timers -/

/-- One tick: a counting timer is lowered by one, and at its last tick it expires. -/
def Timer.tick : Timer → Timer
  | .stopped h => .stopped h
  | .counting n => if n ≤ 1 then .expired else .counting (n - 1)
  | .expired => .expired

/-- One tick of the gap timer, which expires at the tick after it has counted all its ticks (R177). -/
def Timer.tickGap : Timer → Timer
  | .stopped h => .stopped h
  | .counting n => if n = 0 then .expired else .counting (n - 1)
  | .expired => .expired

/-- The ticks left, 0 for a stopped timer. A timer whose expiry is due reads as standing at its last tick
(log entry 15). -/
def Timer.left : Timer → Nat
  | .stopped _ => 0
  | .counting n => n
  | .expired => 1

/-- The time left in whole seconds, rounded up, or 0 when stopped (R142, R147, R165). -/
def Timer.seconds (t : Timer) : Nat :=
  (t.left + 999) / 1000

/-- Whether the timer runs: it counts, or its expiry is due. -/
def Timer.runs : Timer → Bool
  | .stopped _ => false
  | .counting _ => true
  | .expired => true

/-! ### Byte order, frames, CRC -/

/-- The low eight bits of a number as one byte. -/
def byteOf (n : Nat) : Byte :=
  BitVec.ofNat 8 n

/-- A number as two bytes, most significant first (Conventions, Byte order). -/
def halfBytes (n : Nat) : List Byte :=
  [byteOf (n / 256), byteOf n]

/-- A word as four bytes, most significant first. -/
def wordBytes (w : Word) : List Byte :=
  [byteOf (w.toNat / 16777216), byteOf (w.toNat / 65536), byteOf (w.toNat / 256), byteOf w.toNat]

/-- A flag as one byte, 1 when set (section 11.8). -/
def flagByte (b : Bool) : Byte :=
  if b then 1 else 0

/-- The 64 flags of a slot as eight bytes, byte `k` holding outputs `8k` to `8k + 7` (R183). -/
def flagBytes (f : Flags) : List Byte :=
  (List.range 8).map fun k => byteOf (f.toNat / 2 ^ (8 * k))

/-- One bit of the CRC-16 of R176: polynomial 0x1021, most significant bit first. -/
def crcBit (crc : Half) : Half :=
  if crc.msb then (crc <<< 1) ^^^ 0x1021 else crc <<< 1

/-- One byte of the CRC-16. -/
def crcByte (crc : Half) (b : Byte) : Half :=
  let x := crc ^^^ ((b.setWidth 16) <<< 8)
  crcBit (crcBit (crcBit (crcBit (crcBit (crcBit (crcBit (crcBit x)))))))

/-- The CRC-16 of a list of bytes: starting from 0xFFFF, nothing reflected, no final value (R176). -/
def crc16 (bytes : List Byte) : Half :=
  bytes.foldl crcByte 0xFFFF

/-- The frame that carries a body: start, length, body, check (Table 11-5). -/
def frameOf (body : List Byte) : List Byte :=
  let counted := halfBytes body.length ++ body
  (0xA5 : Byte) :: counted ++ halfBytes (crc16 counted).toNat

/-! ### The supervisory line (R175) -/

/-- The bit rate of the supervisory link, in bits a second, that the straps choose (Table 11-1). -/
def bitRate (p : Straps) : Nat :=
  match p.rate1, p.rate0 with
  | false, false => 9600
  | false, true => 19200
  | true, false => 57600
  | true, true => 115200

/-- The levels of one character on the line, `true` for HIGH: a start bit, 8 data bits least significant first, a stop
bit (R175). -/
def characterBits (b : Byte) : List Bool :=
  false :: (List.range 8).map b.getLsbD ++ [true]

/-- The levels of a frame on the line: its characters one after another (R175). -/
def lineBits (frame : List Byte) : List Bool :=
  frame.flatMap characterBits

/-- A frame whose transmission begins, all of it still to be sent: n × 10 bit times for n characters (R175). -/
def Reply.ofFrame (frame : List Byte) (ofReset : Bool) : Reply :=
  ⟨frame, ofReset, 10000 * frame.length⟩

/-- One tick of a transmission at a bit rate: a thousandth of the rate in bits goes out. An ordinary reply ends at the
tick after it has counted all its bits, when it has surely ended (log entry 8); the reply to RESET ends at
SOFTWARE_RESET (R174). -/
def Reply.tick (rate : Nat) (r : Reply) : Option Reply :=
  if r.left = 0 ∧ r.ofReset = false then none else some { r with left := r.left - rate }

/-- TXD stands at its idle level, HIGH: no reply is being sent (R175). -/
def State.txdIdle (s : State) : Bool :=
  s.link.reply.isNone

/-! ### Loops and generators -/

/-- A loop's controller. -/
def State.loop (s : State) : Loop → LoopController
  | .a => s.loopA
  | .b => s.loopB

/-- The state with a loop's controller replaced. -/
def State.withLoop (s : State) (l : Loop) (c : LoopController) : State :=
  match l with
  | .a => { s with loopA := c }
  | .b => { s with loopB := c }

/-- The other loop. -/
def otherLoop : Loop → Loop
  | .a => .b
  | .b => .a

/-- The loop index of the lamp-number formula (Conventions). -/
def loopIndex : Loop → Nat
  | .a => 0
  | .b => 1

/-- The loop a loop code names (R105, R118, R120). -/
def loopOfCode (code : Byte) : Option Loop :=
  if code = 0 then some .a else if code = 1 then some .b else none

/-- The lamp number of an output (Conventions). -/
def lampNumber (l : Loop) (slot output : Nat) : Nat :=
  loopIndex l * 2048 + slot * 64 + output

/-- A generator of the Cadence Unit. -/
def CadenceUnit.generator (c : CadenceUnit) : Generator → CadenceGenerator
  | .fast => c.fast
  | .slow => c.slow
  | .wink => c.wink

/-- The Cadence Unit with a generator replaced. -/
def CadenceUnit.withGenerator (c : CadenceUnit) (g : Generator) (x : CadenceGenerator) : CadenceUnit :=
  match g with
  | .fast => { c with fast := x }
  | .slow => { c with slow := x }
  | .wink => { c with wink := x }

/-- The number of outputs of a size (Table 6-3). -/
def TileSize.outputs : TileSize → Nat
  | .s16 => 16
  | .s32 => 32
  | .s64 => 64

/-- The size a code names: the number of outputs (R118, R183). -/
def TileSize.ofCode (code : Byte) : Option TileSize :=
  if code = 16 then some .s16 else if code = 32 then some .s32 else if code = 64 then some .s64 else none

/-! ### The journal's append -/

/-- What a block offers to the Journal Unit (R152): every field but the sequence number and the time, and for a point
class the section of its point. -/
structure Offer where
  cls     : EntryClass
  source  : Source
  subject : Subject
  old     : Byte
  new     : Byte
  details : List (Fin 64 × Verdict) := []
  sect    : Option (Fin 16) := none

/-- The detail items held by a ring's entries (R155). -/
def itemsHeld : List JournalEntry → Nat
  | [] => 0
  | e :: rest => e.details.length + itemsHeld rest

/-- Step 1 of R156: the oldest entries are discarded until the ring has a place and the detail store `d` items free. -/
def makeRoom (d : Nat) : List JournalEntry → List JournalEntry
  | [] => []
  | e :: rest =>
    if Config.ringCapacity ≤ (e :: rest).length ∨ Config.detailCapacity < itemsHeld (e :: rest) + d then
      makeRoom d rest
    else e :: rest

/-- The append of R156, which asserts ATTN (R159). -/
def JournalUnit.append (j : JournalUnit) (time : Word) (o : Offer) : JournalUnit :=
  { j with
    ring := makeRoom o.details.length j.ring ++
      [⟨j.nextSeq, time, o.cls, o.source, o.subject, o.old, o.new, o.details⟩]
    nextSeq := j.nextSeq + 1
    attn := true }

/-- Whether a class is selected by a section's selections; a board class always is (R152). -/
def Selection.selects (sel : Selection) : EntryClass → Bool
  | .alarm => sel.alarm
  | .ack => sel.ack
  | .change => sel.change
  | .admin => sel.admin
  | .lamp | .tile | .supervision | .test | .mode | .operator => true

/-- Whether an offer is recorded: a point-class offer by the selection of its section, any other always (R152). -/
def JournalUnit.records (j : JournalUnit) (o : Offer) : Bool :=
  match o.sect with
  | none => true
  | some k => (j.selection.get k).selects o.cls

/-- An offer to the Journal Unit: recorded with the time counter as it stands, or dropped (R152). -/
def State.offer (o : Offer) (s : State) : State :=
  if s.journal.records o then { s with journal := s.journal.append s.cadence.time o } else s

/-- The emptying of the ring and the detail store, which negates ATTN (R159 to R161). -/
def JournalUnit.emptied (j : JournalUnit) : JournalUnit :=
  { j with ring := [], attn := false }

/-! ### Taking a command -/

/-- A command's effect, but for the reset pin: while RESET is asserted the part takes no event (R173). -/
def State.takes (s : State) (f : State → State) : Host.Outcome State Fault Refusal :=
  .next (if s.inReset then s else f s)

end Sys2Proof.Machine
end

