-- ==== Sys2Proof/Machine/Flags.lean ====
section
/-!
DEFINITION. What the manual derives from the state and does not store: effective value, quality, lamp fault, in list,
the lamp-test state, whether a test is on, HORN, the reply flags, and the codes of the enumerations.
-/

namespace Sys2Proof.Machine

/-! ### Codes -/

/-- Kind codes (Table 11-7). -/
def PointKind.code : PointKind → Nat
  | .status => 0
  | .alarm => 1
  | .band => 2

/-- Alarm state codes (Table 2-1). -/
def AlarmState.code : AlarmState → Byte
  | .normal => 0
  | .alarmUnack => 1
  | .alarmAck => 2
  | .clearedUnack => 3

/-- HORN state codes (Table 11-14). -/
def Horn.code : Horn → Nat
  | .quiet => 0
  | .steady => 1
  | .pulsed => 2

/-- Loop state codes (Table 11-14). -/
def LoopState.code : LoopState → Nat
  | .stopped => 0
  | .running => 1
  | .stopping => 2
  | .testing => 3

/-- Tile state codes (Table 6-5). -/
def TileState.code : TileState → Nat
  | .disabled => 0
  | .joining => 1
  | .present => 2
  | .absent => 3
  | .mismatched => 4

/-- Verdict codes (Table 7-2). -/
def Verdict.code : Verdict → Nat
  | .unproven => 0
  | .good => 1
  | .dark => 2
  | .lit => 3

/-- Whether a verdict is DARK or LIT. -/
def Verdict.faulty : Verdict → Bool
  | .unproven | .good => false
  | .dark | .lit => true

/-- Link mode codes (Table 8-1). -/
def LinkMode.code : LinkMode → Nat
  | .off => 0
  | .on => 1
  | .locked => 2

/-- Link state codes (Table 8-1). -/
def LinkState.code : LinkState → Byte
  | .healthy => 0
  | .lost => 1

/-- Outstation state codes (Table 8-3). -/
def OutstationState.code : OutstationState → Byte
  | .unsupervised => 0
  | .healthy => 1
  | .failed => 2

/-- Class codes (Table 9-2). -/
def EntryClass.code : EntryClass → Nat
  | .alarm => 0
  | .ack => 1
  | .change => 2
  | .admin => 3
  | .lamp => 4
  | .tile => 5
  | .supervision => 6
  | .test => 7
  | .mode => 8
  | .operator => 9

/-- Source codes (Table 9-3). -/
def Source.code : Source → Nat
  | .host => 0
  | .desk => 1
  | .loopA => 2
  | .loopB => 3
  | .supervision => 4
  | .test => 5
  | .reset => 6

/-- The source of a loop's events (Table 9-3). -/
def loopSource : Loop → Source
  | .a => .loopA
  | .b => .loopB

/-- Device mode codes (R162). -/
def DeviceMode.code : DeviceMode → Nat
  | .offline => 0
  | .online => 1

/-- Test kind codes (Table 10-3). -/
def TestKind.code : TestKind → Nat
  | .none => 0
  | .memory => 1
  | .loop => 2

/-- Test state codes (Table 10-3). -/
def TestState.code : TestState → Nat
  | .notRun => 0
  | .running => 1
  | .aborting => 2
  | .passed => 3
  | .failed => 4
  | .aborted => 5

/-- Tile result codes (Table 10-3). -/
def TileResult.code : TileResult → Nat
  | .notTested => 0
  | .pass => 1
  | .fail => 2
  | .noReply => 3

/-- Generator codes (R70). -/
def generatorOfCode (code : Byte) : Option Generator :=
  if code = 0 then some .fast
  else if code = 1 then some .slow
  else if code = 2 then some .wink
  else none

/-- Phase codes (Table 11-15). -/
def Phase.code : Phase → Nat
  | .dark => 0
  | .lit => 1

/-! ### Points -/

/-- The record of a point, absent when the point is undefined (R1). -/
def State.point? (s : State) (p : Nat) : Option PointRecord :=
  s.points.table.get? p

/-- The effective value (R3): the forced value, else the live value, else none. -/
def PointRecord.effective (r : PointRecord) : Option Nat :=
  match r.forced with
  | some v => some v
  | none => r.live

/-- An optional value as one byte: 0xFF for none (R7, R9). -/
def valueByte : Option Nat → Byte
  | none => 0xFF
  | some v => byteOf v

/-- Whether a value is in the range of the record's kind (Table 1-2). -/
def PointRecord.accepts (r : PointRecord) (v : Nat) : Bool :=
  match r.kind with
  | .status => v ≤ 1
  | .alarm => v ≤ 1
  | .band => v ≤ r.lamps.length

/-- The qualities of Table 1-3. -/
inductive Quality where
  | good
  | awaiting
  | stale
  | forced
  deriving DecidableEq, Repr

/-- Quality codes (Table 11-8). -/
def Quality.code : Quality → Nat
  | .good => 0
  | .awaiting => 1
  | .stale => 2
  | .forced => 3

/-- The quality of a record (R4, Table 1-3), derived from the link and outstation states as they stand. -/
def SupervisionUnit.quality (u : SupervisionUnit) (r : PointRecord) : Quality :=
  if r.forced.isSome then .forced
  else if r.live.isNone then .awaiting
  else if u.link.state = .lost ∨ (u.outstations.get r.outstation).state = .failed then .stale
  else .good

/-- Whether a point stands in the Annunciation List (R5). -/
def AlarmUnit.inList (u : AlarmUnit) (p : Nat) : Bool :=
  u.list.any fun e => e.point == p

/-- The proving record of a lamp; an unlisted one is at its reset value (R125, R136). -/
def provingOf (t : Sparse ProvingRecord) (lamp : Nat) : ProvingRecord :=
  (t.get? lamp).getD ProvingRecord.initial

/-- Whether a record's lamp list holds a lamp with verdict DARK or LIT (R5, R132). -/
def lampFault (t : Sparse ProvingRecord) (r : PointRecord) : Bool :=
  r.lamps.any fun n => (provingOf t n.val).verdict.faulty

/-! ### Modes -/

/-- The lamp-test state is active while the host timer runs or the desk hold is set (R164). -/
def ModeController.lampTestActive (m : ModeController) : Bool :=
  m.hostTimer.runs || m.deskHold

/-- Whether a test is RUNNING or ABORTING (R179). -/
def ModeController.testOn (m : ModeController) : Bool :=
  m.test.state = .running ∨ m.test.state = .aborting

/-! ### HORN (R44) -/

/-- The HORN state of Table 2-8; QUIET while RESET is asserted (R173). -/
def hornOf (inReset : Bool) (device : DeviceMode) (list : List AnnEntry) : Horn :=
  if inReset ∨ device = .offline then .quiet
  else if list.any (fun e => e.mark && e.priority == 0) then .steady
  else if list.any (fun e => e.mark) then .pulsed
  else .quiet

/-- The HORN signal of a HORN state (Table 2-8): a PULSED horn follows the FAST phase. -/
def hornSignal : Horn → Phase → Bool
  | .quiet, _ => false
  | .steady, _ => true
  | .pulsed, .lit => true
  | .pulsed, .dark => false

/-- HORN derived again (R44). -/
def State.deriveHorn (s : State) : State :=
  { s with alarm :=
    { s.alarm with
      horn := hornOf s.inReset s.mode.device s.alarm.list
      hornPin := hornSignal (hornOf s.inReset s.mode.device s.alarm.list) s.cadence.fast.phase } }

/-! ### Replies (R180) -/

/-- The status codes of Table 11-4. -/
inductive Status where
  | ok
  | check
  | length
  | unknown
  | format
  | range
  | mode
  | busy
  | exists
  | undefined
  | lampTaken
  | kind
  | notPending
  | locked
  | noTest
  deriving DecidableEq, Repr

/-- The codes of Table 11-4. -/
def Status.code : Status → Byte
  | .ok => 0x00
  | .check => 0x01
  | .length => 0x02
  | .unknown => 0x03
  | .format => 0x04
  | .range => 0x05
  | .mode => 0x06
  | .busy => 0x07
  | .exists => 0x08
  | .undefined => 0x09
  | .lampTaken => 0x0A
  | .kind => 0x0B
  | .notPending => 0x0C
  | .locked => 0x0D
  | .noTest => 0x0E

/-- The flags byte of a reply: QUEUE_LOST in bit 0, ATTN in bit 1 (R180). -/
def replyFlags (queueLost attn : Bool) : Byte :=
  byteOf ((if queueLost then 1 else 0) + (if attn then 2 else 0))

end Sys2Proof.Machine
end

