-- ==== Sys2Proof/Machine/Operands.lean ====
section
/-!
DEFINITION. How operands are read: the fields of a payload, the record a DEFINE POINT describes, the levels of the desk
pins, the reply a tile gave within its window, and the body that carries a request. And the answer an owning block
returns to the request gate.
-/

namespace Sys2Proof.Machine

/-! ### Answers -/

/-- What an owning block returns for a request: the state it leaves, a status and a reply payload (R179). -/
structure Answer where
  state   : State
  status  : Status := .ok
  payload : List Byte := []

/-- A refusal: nothing changed, no payload (R180, Conventions). -/
def State.refuse (s : State) (status : Status) : Answer :=
  { state := s, status := status }

/-! ### Payload fields -/

/-- Two bytes as one field, most significant first. -/
def halfOf (hi lo : Byte) : Half :=
  hi ++ lo

/-- Four bytes as one field, most significant first. -/
def wordOf (b3 b2 b1 b0 : Byte) : Word :=
  (b3 ++ b2 ++ b1 ++ b0 : BitVec (8 + 8 + 8 + 8))

/-- A payload read as two-byte fields; none when a byte is left over. -/
def halvesOf : List Byte → Option (List Half)
  | [] => some []
  | [_] => none
  | hi :: lo :: rest => (halvesOf rest).map (halfOf hi lo :: ·)

/-- A payload read as updates of three bytes; none when bytes are left over (Table 11-3 note 2). -/
def updatesOf : List Byte → Option (List Update)
  | [] => some []
  | [_] => none
  | [_, _] => none
  | hi :: lo :: v :: rest => (updatesOf rest).map (⟨halfOf hi lo, v⟩ :: ·)

/-- A DEFINE POINT payload read as its fields (Table 11-7); none when it is shorter than 8 bytes or its lamp numbers
are not whole. -/
def defineArgsOf : List Byte → Option DefineArgs
  | p1 :: p0 :: kind :: outstation :: sect :: priority :: ringBack :: count :: rest =>
    (halvesOf rest).map fun lamps => ⟨halfOf p1 p0, kind, outstation, sect, priority, ringBack, count, lamps⟩
  | _ => none

/-! ### DEFINE POINT -/

/-- The kind a kind code names (Table 11-7). -/
def PointKind.ofCode (code : Byte) : Option PointKind :=
  if code = 0 then some .status
  else if code = 1 then some .alarm
  else if code = 2 then some .band
  else none

/-- A yes or no code (Table 11-7). -/
def yesNoOf (code : Byte) : Option Bool :=
  if code = 0 then some false else if code = 1 then some true else none

/-- A number below `n`, or none. -/
def boundedOf (n v : Nat) : Option (Fin n) :=
  if h : v < n then some ⟨v, h⟩ else none

/-- Lamp numbers 0-4095, or none when one is above (Table 1-5, check 6). -/
def lampsOf : List Half → Option (List (Fin 4096))
  | [] => some []
  | x :: rest =>
    match boundedOf 4096 x.toNat, lampsOf rest with
    | some n, some ns => some (n :: ns)
    | _, _ => none

/-- Whether a lamp count is allowed for a kind (Table 1-2). -/
def PointKind.allows : PointKind → Nat → Bool
  | .status, n => n = 1 ∨ n = 2
  | .alarm, n => n = 1 ∨ n = 2
  | .band, n => 2 ≤ n ∧ n ≤ 8

/-- The record that a DEFINE POINT describes, or none when one of the checks 3 to 7 of Table 1-5 fails. A ring-back of
yes is stored as no for STATUS and BAND (R12); the new record stands as R13 gives. -/
def recordOf (d : DefineArgs) : Option PointRecord :=
  match PointKind.ofCode d.kind, boundedOf 128 d.outstation.toNat, boundedOf 16 d.sect.toNat,
      boundedOf 4 d.priority.toNat, yesNoOf d.ringBack, lampsOf d.lamps with
  | some kind, some outstation, some sect, some priority, some ringBack, some lamps =>
    if kind.allows lamps.length ∧ lamps.Nodup then
      some
        { kind := kind
          outstation := outstation
          sect := sect
          priority := priority
          ringBack := ringBack && kind == .alarm
          inhibited := false
          lamps := lamps
          live := none
          forced := none
          alarm := if kind = .alarm then some .normal else none
          lastChange := none }
    else none
  | _, _, _, _, _, _ => none

/-! ### Desk pins (R50, Table 3-1) -/

/-- The value of the section selector: the weights of its HIGH lines. -/
def selectorOf (p : DeskPins) : Fin 16 :=
  (if p.sel0 then 1 else 0) + (if p.sel1 then 2 else 0) + (if p.sel2 then 4 else 0) + (if p.sel3 then 8 else 0)

/-! ### Tile replies (R111, R183, Table 11-12) -/

/-- A valid reply: its size, absent for a size code that is not one of 16, 32 and 64; its drive-fault flag; its
sense flags. -/
structure TileReply where
  size       : Option TileSize
  driveFault : Bool
  sense      : Flags
  deriving DecidableEq, Repr

/-- Sense bytes as 64 flags, output `8k + b` in bit `b` of byte `k` (R183). -/
def senseOf : List Byte → Nat
  | [] => 0
  | b :: rest => b.toNat + 256 * senseOf rest

/-- The reply that the characters of a reply window make: valid when the first is the reply marker 0x3C, eleven came
within the window, and none of the eleven had its stop bit LOW; anything else is no reply (R183). Characters after the
eleventh are no part of the reply (log entry 14). -/
def tileReplyOf : List RxChar → Option TileReply
  | m :: size :: status :: b0 :: b1 :: b2 :: b3 :: b4 :: b5 :: b6 :: b7 :: _ =>
    let word := [m, size, status, b0, b1, b2, b3, b4, b5, b6, b7]
    if m.byte = 0x3C ∧ word.all (fun c => c.stopOk) then
      some
        { size := TileSize.ofCode size.byte
          driveFault := status.byte.getLsbD 0
          sense := BitVec.ofNat 64 (senseOf ([b0, b1, b2, b3, b4, b5, b6, b7].map fun c => c.byte)) }
    else none
  | _ => none

/-- Whether a valid reply is right size for a slot's latched size (R111). -/
def TileReply.rightSize (r : TileReply) (latched : Option TileSize) : Bool :=
  match r.size, latched with
  | some a, some b => a = b
  | _, _ => false

/-! ### Request bodies (R176, Table 11-3) -/

/-- The body of the frame that carries a request: its kind byte, then its payload, each field most significant byte first
(R176, Table 11-3); none for a command that is no request. -/
def requestBody : Instr → Option (List Byte)
  | .readStatus => some [0x01]
  | .setModeOnline => some [0x02, 1]
  | .setModeOffline => some [0x02, 0]
  | .reset => some [0x03]
  | .runTest kind => some [0x04, kind]
  | .abortTest => some [0x05]
  | .readTestResults => some [0x06]
  | .definePoint d =>
    some
      ([0x10] ++ halfBytes d.point.toNat ++
        [d.kind, d.outstation, d.sect, d.priority, d.ringBack, d.lampCount] ++
        d.lamps.flatMap fun n => halfBytes n.toNat)
  | .deletePoint point => some (0x11 :: halfBytes point.toNat)
  | .readPoint point => some (0x12 :: halfBytes point.toNat)
  | .updatePoints updates => some (0x13 :: updates.flatMap fun u => halfBytes u.point.toNat ++ [u.value])
  | .forcePoint point value => some (0x14 :: halfBytes point.toNat ++ [value])
  | .releasePoint point => some (0x15 :: halfBytes point.toNat)
  | .inhibitPoint point => some (0x16 :: halfBytes point.toNat)
  | .enablePoint point => some (0x17 :: halfBytes point.toNat)
  | .acknowledge scope argument => some ([0x20, scope] ++ halfBytes argument.toNat)
  | .silence => some [0x21]
  | .readAnnunciation start count => some (0x22 :: halfBytes start.toNat ++ [count])
  | .setHornThreshold value => some [0x23, value]
  | .setDeskControl enable period => some [0x24, enable, period]
  | .configureTile loop slot size enable => some [0x30, loop, slot, size, enable]
  | .setLoopTiming loop period => some ([0x31, loop] ++ halfBytes period.toNat)
  | .setIntensity value => some [0x32, value]
  | .lampTest duration => some [0x33, duration]
  | .readLoopStatus loop => some [0x34, loop]
  | .readLampFaults start => some (0x35 :: halfBytes start.toNat)
  | .setCadence g prescale lit dark run => some ([0x38, g] ++ halfBytes prescale.toNat ++ [lit, dark, run])
  | .setTime time => some (0x39 :: wordBytes time)
  | .setSupervision mode period => some [0x40, mode, period]
  | .setOutstationPeriods first periods => some ([0x41, first] ++ periods.flatMap fun p => halfBytes p.toNat)
  | .siteHeartbeat outstations => some (0x42 :: outstations)
  | .readOutstations first count => some [0x43, first, count]
  | .readJournal count => some [0x50, count]
  | .setJournalSelection values => some (0x51 :: values)
  | .softwareReset | .memoryTestCompletion _ | .deskSample _ | .tick | .prescaleExpiry _ | .phaseToggle _ => none
  | .passStart | .passCompletion | .frameTimerExpiry _ | .frameStart _ | .slotEnd _ _ | .frameEnd _ => none
  | .hostTimerExpiry | .linkCountdownExpiry | .outstationCountdownExpiry _ | .characterReceived _ => none
  | .gapTimerExpiry | .serviceBegin | .hardwareResetAssert | .hardwareResetNegation _ => none

end Sys2Proof.Machine
end

