-- ==== Sys2Proof/Machine/Cadence.lean ====
section
/-!
DEFINITION. The Cadence Unit (chapter 4): prescale expiry, phase toggle, SET CADENCE and SET TIME.
-/

namespace Sys2Proof.Machine

/-- The state with a generator replaced. -/
def State.withGenerator (s : State) (g : Generator) (x : CadenceGenerator) : State :=
  { s with cadence := s.cadence.withGenerator g x }

/-- The hand-on of a generator's change of phase: the Alarm Unit follows FAST alone (R73). -/
def State.followPhase (s : State) (g : Generator) : State :=
  match g with
  | .fast => s.deriveHorn
  | .slow => s
  | .wink => s

/-- Whether a RUNNING generator's prescale expiry is due (R71). -/
def State.prescaleDue (s : State) (g : Generator) : Bool :=
  let x := s.cadence.generator g
  x.running && x.prescaleCounter == .expired

/-- PRESCALE_EXPIRY, when it is due: the prescale counter is loaded with the reload value as it stands, and one cadence
tick steps the phase counter (R71, R72). -/
def State.expirePrescale (g : Generator) (s : State) : State :=
  if s.prescaleDue g then
    let x := s.cadence.generator g
    s.withGenerator g
      { x with prescaleCounter := .counting x.prescaleReload, phaseCounter := x.phaseCounter.tick }
  else s

/-- Whether a generator's toggle is due (R72). -/
def State.toggleDue (s : State) (g : Generator) : Bool :=
  let x := s.cadence.generator g
  x.running && x.phaseCounter == .expired

/-- The generator after a toggle: the other phase, its counter loaded with that phase's reload value (R72). -/
def CadenceGenerator.toggled (x : CadenceGenerator) : CadenceGenerator :=
  match x.phase with
  | .lit => { x with phase := .dark, phaseCounter := .counting x.darkReload }
  | .dark => { x with phase := .lit, phaseCounter := .counting x.litReload }

/-- PHASE_TOGGLE, when it is due; HORN follows the FAST phase (R72, R73). -/
def State.togglePhase (g : Generator) (s : State) : State :=
  if s.toggleDue g then (s.withGenerator g (s.cadence.generator g).toggled).followPhase g else s

/-- A generator stepped by one tick: only a RUNNING one counts (R71). -/
def CadenceGenerator.tick (x : CadenceGenerator) : CadenceGenerator :=
  if x.running then { x with prescaleCounter := x.prescaleCounter.tick } else x

/-- A generator with new reload values written; neither counter is loaded (R75). -/
def CadenceGenerator.write (x : CadenceGenerator) (prescale lit dark : Nat) : CadenceGenerator :=
  { x with prescaleReload := prescale, litReload := lit, darkReload := dark }

/-- The action of a run code (Table 4-4). -/
def CadenceGenerator.act (x : CadenceGenerator) (run : Bool) : CadenceGenerator :=
  if x.running ∧ run then x
  else
    { x with
      running := run
      phase := .lit
      prescaleCounter := .counting x.prescaleReload
      phaseCounter := .counting x.litReload }

/-- A generator as the reply to SET CADENCE carries it (Table 11-15). -/
def CadenceGenerator.bytes (x : CadenceGenerator) (code : Byte) : List Byte :=
  [code] ++ halfBytes x.prescaleReload ++
    [byteOf x.litReload, byteOf x.darkReload, flagByte x.running, byteOf x.phase.code] ++
    halfBytes x.prescaleCounter.left ++ [byteOf x.phaseCounter.left]

/-- SET CADENCE (R74 to R77). -/
def setCadenceAnswer (generator : Byte) (prescale : Half) (lit dark run : Byte) (s : State) : Answer :=
  match generatorOfCode generator with
  | none => s.refuse .range
  | some g =>
    if 1 ≤ prescale.toNat ∧ prescale.toNat ≤ 256 ∧ 1 ≤ lit.toNat ∧ 1 ≤ dark.toNat ∧ run.toNat ≤ 1 then
      let x := ((s.cadence.generator g).write prescale.toNat lit.toNat dark.toNat).act (run = 1)
      { state := (s.withGenerator g x).followPhase g, payload := x.bytes generator }
    else s.refuse .range

/-- SET TIME (R69). -/
def setTimeAnswer (time : Word) (s : State) : Answer :=
  { state := { s with cadence := { s.cadence with time := time } }, payload := wordBytes s.cadence.time }

/-- A generator after a software reset (R79). -/
def CadenceGenerator.afterSoftwareReset (x : CadenceGenerator) : CadenceGenerator :=
  CadenceGenerator.loaded x.prescaleReload x.litReload x.darkReload x.running

end Sys2Proof.Machine
end

