-- ==== Sys2Proof/Machine/Compose.lean ====
section
/-!
DEFINITION. The Image Composer (chapter 5): requests, arbitration, the start and the completion of a pass, the
appearance of a lamp and its flag, and the catching up of a pass before what it reads is changed.
-/

namespace Sys2Proof.Machine

/-! ### Requests and arbitration (R82 to R85) -/

/-- A loop's compose request. -/
def Composer.request (c : Composer) : Loop → ComposeRequest
  | .a => c.requestA
  | .b => c.requestB

/-- The composer with a loop's request replaced. -/
def Composer.withRequest (c : Composer) (l : Loop) (q : ComposeRequest) : Composer :=
  match l with
  | .a => { c with requestA := q }
  | .b => { c with requestB := q }

/-- The loop whose pass starts when the composer becomes IDLE: the only WAITING one, or of two the one not served last
(R84). -/
def Composer.arbitrate (c : Composer) : Option Loop :=
  match c.requestA, c.requestB with
  | .waiting, .waiting => some (otherLoop c.lastServed)
  | .waiting, _ => some .a
  | _, .waiting => some .b
  | _, _ => none

/-- The loop whose pass is the next to start: the one R84 has fixed already, else by arbitration. -/
def Composer.next (c : Composer) : Option Loop :=
  match c.elected with
  | some l => if c.request l = .waiting then some l else c.arbitrate
  | none => c.arbitrate

/-- A compose request made by a loop that has none outstanding (R83). One that reaches an IDLE composer with no pass
due fixes the next pass (R84). -/
def Composer.ask (c : Composer) (l : Loop) : Composer :=
  if c.request l = .none then
    { c.withRequest l .waiting with
      elected := if c.pass.isNone ∧ c.elected.isNone then some l else c.elected }
  else c

/-- The withdrawal of a WAITING request (R85). -/
def Composer.withdraw (c : Composer) (l : Loop) : Composer :=
  if c.request l = .waiting then
    let rest := { c.withRequest l .none with elected := none }
    { rest with elected := if c.elected = some l then (if c.pass.isNone then rest.arbitrate else none) else c.elected }
  else c

/-- What a loop's becoming STOPPED does to its request and its pass: a WAITING request is withdrawn, a pass IN_FLIGHT
is marked discarded and its request becomes NONE (R85). -/
def Composer.drop (c : Composer) (l : Loop) : Composer :=
  if c.request l = .inFlight then
    { c.withRequest l .none with pass := c.pass.map fun p => { p with discarded := true } }
  else c.withdraw l

/-! ### Appearance (R90 to R95) -/

/-- The appearances of a lamp. -/
inductive Appearance where
  | off
  | steady
  | fast
  | slow
  | wink
  deriving DecidableEq, Repr

/-- STEADY when a condition holds, else OFF. -/
def Appearance.steadyIf (b : Bool) : Appearance :=
  if b then .steady else .off

/-- The base appearance of an ALARM lamp (Table 5-4). -/
def AlarmState.appearance : AlarmState → Appearance
  | .normal => .off
  | .alarmUnack => .fast
  | .alarmAck => .steady
  | .clearedUnack => .slow

/-- The base appearance of lamp `i` of a record's lamp list (R91 to R93). A record without an effective value has no
lit lamp. -/
def PointRecord.baseAppearance (r : PointRecord) (i : Nat) : Appearance :=
  match r.kind with
  | .status => Appearance.steadyIf (r.effective = some 1 ∧ i = 0 ∨ r.effective = some 0 ∧ i = 1)
  | .alarm => if r.inhibited then .off else (r.alarm.getD .normal).appearance
  | .band => Appearance.steadyIf (i < r.effective.getD 0)

/-- The change of a base appearance by quality STALE (R94). -/
def Appearance.stale : Appearance → Appearance
  | .steady => .wink
  | .off => .off
  | .fast => .fast
  | .slow => .slow
  | .wink => .wink

/-- The appearance of a lamp (Table 5-2), with the lamp-test state sampled at pass start. -/
def State.appearance (s : State) (lampTest : Bool) (lamp : Nat) : Appearance :=
  if lampTest then .steady
  else
    match s.points.owners.get? lamp with
    | none => .off
    | some p =>
      match s.point? p with
      | none => .off
      | some r =>
        let base := r.baseAppearance (r.lamps.findIdx fun n => n.val == lamp)
        match s.supervision.quality r with
        | .awaiting => .off
        | .stale => base.stale
        | .good => base
        | .forced => base

/-- The flag of a lamp of an appearance, by the phases sampled at pass start (Table 5-5). -/
def Pass.flagOf (p : Pass) : Appearance → Bool
  | .off => false
  | .steady => true
  | .fast => p.fast == .lit
  | .slow => p.slow == .lit
  | .wink => p.wink == .lit

/-- The flag a pass gives to the lamp at a place of its loop, 64 places a slot, with the part as it stands (R87). -/
def State.lampFlag (s : State) (p : Pass) (place : Nat) : Bool :=
  p.flagOf (s.appearance p.lampTest (lampNumber p.loop 0 place))

/-! ### The pass (R86 to R88) -/

/-- The pass with the lamps up to place `k` composed from the part as it stands; those composed before keep their
flags (R87, R98). -/
def State.composeTo (s : State) (p : Pass) (k : Nat) : Pass :=
  { p with
    position := k
    flags := Bank.make fun slot => BitVec.ofFnLE fun output : Fin 64 =>
      let place := slot.val * 64 + output.val
      if p.position ≤ place ∧ place < k then s.lampFlag p place
      else (p.flags.get slot).getLsbD output.val }

/-- Before what a pass reads is changed, the pass in flight has come as far as a free value says; the lamps composed
until then do not show the change, the others do (R98; log entry 5). -/
def State.catchUp (s : State) : State :=
  match s.composer.pass with
  | none => s
  | some p =>
    { s with
      composer :=
        { s.composer with
          pass := some (s.composeTo p (min 2048 (p.position + Config.passProgress s.freeIndex))) }
      freeIndex := s.freeIndex + 1 }

/-- Whether a pass start is due: the composer is IDLE and a request is WAITING (R84). -/
def State.passDue (s : State) : Bool :=
  s.composer.pass.isNone && s.composer.next.isSome

/-- The start of a pass for a loop, with its samples (R84, R86). -/
def State.beginPass (s : State) (l : Loop) : State :=
  { s with composer :=
    { s.composer.withRequest l .inFlight with
      pass := some
        { loop := l
          discarded := false
          fast := s.cadence.fast.phase
          slow := s.cadence.slow.phase
          wink := s.cadence.wink.phase
          lampTest := s.mode.lampTestActive
          intensity := s.intensity
          position := 0
          flags := (s.loop l).back.flags }
      lastServed := l
      elected := none } }

/-- PASS_START: the pass R84 calls for starts, if the composer is IDLE and a request is WAITING. -/
def State.startPass (s : State) : State :=
  if s.passDue then
    match s.composer.next with
    | some l => s.beginPass l
    | none => s
  else s

/-- The completion of the pass `p` (R88): the rest of its flags is written; a pass not discarded gives the back image
its intensity and the mark COMPLETE and ends its loop's request; the composer becomes IDLE, and the next pass is
fixed. -/
def State.completePass (s : State) (p : Pass) : State :=
  let c := s.loop p.loop
  let flags := (s.composeTo p 2048).flags
  let idle : Composer :=
    if p.discarded then { s.composer with pass := none }
    else { s.composer.withRequest p.loop .none with pass := none }
  { s.withLoop p.loop
      { c with
        back := ⟨flags, if p.discarded then c.back.intensity else p.intensity⟩
        backComplete := if p.discarded then c.backComplete else true } with
    composer := { idle with elected := idle.arbitrate } }

/-- A loop's compose request is made, if it has none outstanding (R83). -/
def State.askCompose (s : State) (l : Loop) : State :=
  { s with composer := s.composer.ask l }

end Sys2Proof.Machine
end

