-- ==== Sys2Proof/Machine/Alarm.lean ====
section
/-!
DEFINITION. The Alarm Unit (chapter 2): the alarm machine, the Annunciation List, acknowledgement, withdrawal, SILENCE,
and the answers to its requests.
-/

namespace Sys2Proof.Machine

/-! ### The alarm machine (Tables 2-2 and 2-5) -/

/-- The move of an alarm state when the effective value becomes ACTIVE (`true`) or CLEAR; none for "no change"
(Table 2-2). -/
def AlarmState.onValue (ringBack : Bool) : AlarmState → Bool → Option AlarmState
  | .normal, true => some .alarmUnack
  | .normal, false => none
  | .alarmUnack, true => none
  | .alarmUnack, false => some .clearedUnack
  | .alarmAck, true => none
  | .alarmAck, false => some (if ringBack then .clearedUnack else .normal)
  | .clearedUnack, true => some .alarmUnack
  | .clearedUnack, false => none

/-- The move of an alarm state at its acknowledgement; none for a state that is not in the list (Table 2-5). -/
def AlarmState.onAck : AlarmState → Option AlarmState
  | .alarmUnack => some .alarmAck
  | .clearedUnack => some .normal
  | .alarmAck => none
  | .normal => none

/-- Whether a point in this alarm state stands in the list (Table 2-1). -/
def AlarmState.listed : AlarmState → Bool
  | .normal => false
  | .alarmUnack => true
  | .alarmAck => false
  | .clearedUnack => true

/-! ### The list (R32 to R36) -/

/-- The insertion of a new arrival: before the first entry of a greater priority number, else at the tail (R34). -/
def insertArrival (e : AnnEntry) : List AnnEntry → List AnnEntry
  | [] => [e]
  | x :: rest => if e.priority < x.priority then e :: x :: rest else x :: insertArrival e rest

/-- The list without the entry of a point, the rest in their order (R31, R35). -/
def removePoint (p : Nat) (list : List AnnEntry) : List AnnEntry :=
  list.filter fun e => e.point != p

/-- The list with the sounding mark of a point's entry set (R36, re-activation). -/
def markPoint (p : Nat) (list : List AnnEntry) : List AnnEntry :=
  list.map fun e => if e.point = p then { e with mark := true } else e

/-- Whether a priority sounds under the horn threshold (R37). -/
def AlarmUnit.sounds (u : AlarmUnit) (priority : Fin 4) : Bool :=
  priority ≤ u.threshold

/-- The state with the list replaced and HORN derived again (R44). -/
def State.withList (s : State) (list : List AnnEntry) : State :=
  { s with alarm := { s.alarm with list := list } }.deriveHorn

/-- The state with a point's record replaced or made. -/
def State.withPoint (s : State) (p : Nat) (r : PointRecord) : State :=
  { s with points := { s.points with table := s.points.table.put p r } }

/-- A new arrival enters the list, with its sounding mark as given (R32, R34, R36). -/
def State.arrive (s : State) (p : Nat) (r : PointRecord) (mark : Bool) : State :=
  s.withList (insertArrival ⟨p, r.priority, r.sect, s.cadence.time, mark⟩ s.alarm.list)

/-- The offer of an ALARM entry (R29). -/
def State.offerAlarm (s : State) (p : Nat) (r : PointRecord) (old new : AlarmState) : State :=
  s.offer { cls := .alarm, source := .host, subject := .point p, old := old.code, new := new.code, sect := r.sect }

/-- What the move of an alarm state at a value change does to the list (Table 2-2, R36): an arrival from NORMAL is marked
by the threshold, a ring-back arrival has no mark, a re-activation sets the mark if its priority sounds. -/
def State.relist (s : State) (p : Nat) (r : PointRecord) (old new : AlarmState) : State :=
  match old, new with
  | .normal, .alarmUnack => s.arrive p r (s.alarm.sounds r.priority)
  | .alarmAck, .clearedUnack => s.arrive p r false
  | .clearedUnack, .alarmUnack =>
    if s.alarm.sounds r.priority then s.withList (markPoint p s.alarm.list) else s
  | _, _ => s

/-- A value change of a point whose record, already holding the new value, is `r` (R27, R29). -/
def State.valueChange (s : State) (p : Nat) (r : PointRecord) (active : Bool) : State :=
  let old := r.alarm.getD .normal
  match old.onValue r.ringBack active with
  | none => s
  | some new => ((s.withPoint p { r with alarm := some new }).relist p r old new).offerAlarm p r old new

/-- A new arrival on enable (R30). -/
def State.enableArrival (s : State) (p : Nat) (r : PointRecord) : State :=
  ((s.withPoint p { r with alarm := some .alarmUnack }).arrive p r (s.alarm.sounds r.priority)).offerAlarm p r
    .normal .alarmUnack

/-- A withdrawal's effect on the list (R31). -/
def State.withdrawEntry (s : State) (p : Nat) : State :=
  s.withList (removePoint p s.alarm.list)

/-! ### Acknowledgement (R38 to R43) -/

/-- The acknowledgement of one entry (R38). -/
def State.acknowledgeEntry (source : Source) (s : State) (e : AnnEntry) : State :=
  match s.point? e.point with
  | none => s
  | some r =>
    let old := r.alarm.getD .normal
    match old.onAck with
    | none => s
    | some new =>
      ((s.withPoint e.point { r with alarm := some new }).withList (removePoint e.point s.alarm.list)).offer
        { cls := .ack, source := source, subject := .point e.point, old := old.code, new := new.code, sect := r.sect }

/-- The acknowledgement of the covered entries, one after another from the head, as one event (R40). -/
def State.acknowledgeEntries (source : Source) (s : State) (entries : List AnnEntry) : State :=
  match entries with
  | [] => s
  | e :: rest => (e :: rest).foldl (State.acknowledgeEntry source) s.catchUp

/-- The entries of a section, in list order (R40). -/
def AlarmUnit.ofSection (u : AlarmUnit) (k : Fin 16) : List AnnEntry :=
  u.list.filter fun e => e.sect == k

/-- A desk ACK press that is passed on: scope ALL with the ALL SECTIONS switch ON, else scope SECTION (R41, R57). -/
def State.deskAcknowledge (s : State) (all : Bool) (k : Fin 16) : State :=
  s.acknowledgeEntries .desk (if all then s.alarm.list else s.alarm.ofSection k)

/-- ACKNOWLEDGE at the Alarm Unit (R39, Table 2-6). -/
def acknowledgeAnswer (scope : Byte) (argument : Half) (s : State) : Answer :=
  let taken (entries : List AnnEntry) : Answer :=
    { state := s.acknowledgeEntries .host entries, payload := halfBytes entries.length }
  if scope = 0 then
    if argument.toNat < 2048 then
      match s.point? argument.toNat with
      | none => s.refuse .undefined
      | some r =>
        if r.kind = .alarm then
          match s.alarm.list.filter fun e => e.point == argument.toNat with
          | [] => s.refuse .notPending
          | e :: _ => taken [e]
        else s.refuse .kind
    else s.refuse .range
  else if scope = 1 then
    match boundedOf 16 argument.toNat with
    | none => s.refuse .range
    | some k => taken (s.alarm.ofSection k)
  else if scope = 2 then taken s.alarm.list
  else if scope = 3 then taken (s.alarm.list.take 1)
  else s.refuse .range

/-! ### SILENCE, the threshold, reading the list -/

/-- The number of sounding marks in the list. -/
def AlarmUnit.marks (u : AlarmUnit) : Nat :=
  (u.list.filter fun e => e.mark).length

/-- SILENCE from a source (R45). -/
def State.silenceHorn (s : State) (source : Source) : State :=
  (s.withList (s.alarm.list.map fun e => { e with mark := false })).offer
    { cls := .operator, source := source, subject := .none, old := 1, new := byteOf (min 255 s.alarm.marks) }

/-- The SILENCE request (R45). -/
def silenceAnswer (s : State) : Answer :=
  { state := s.silenceHorn .host, payload := halfBytes s.alarm.marks }

/-- SET HORN THRESHOLD (R37). -/
def setHornThresholdAnswer (value : Byte) (s : State) : Answer :=
  match boundedOf 4 value.toNat with
  | none => s.refuse .range
  | some t => { state := { s with alarm := { s.alarm with threshold := t } } }

/-- One entry as READ ANNUNCIATION returns it (Table 11-10), the alarm state read from the point's record. -/
def State.annEntryBytes (s : State) (e : AnnEntry) : List Byte :=
  let alarm := ((s.point? e.point).bind fun r => r.alarm).getD .normal
  halfBytes (alarm.code.toNat * 16384 + e.point) ++
    [byteOf (e.priority.val * 64 + (if e.mark then 32 else 0) + e.sect.val)] ++ wordBytes e.entryTime

/-- READ ANNUNCIATION (R46). -/
def readAnnunciationAnswer (start : Half) (count : Byte) (s : State) : Answer :=
  if start.toNat < 2048 ∧ 1 ≤ count.toNat ∧ count.toNat ≤ 128 then
    let page := (s.alarm.list.drop start.toNat).take count.toNat
    { state := s
      payload := halfBytes s.alarm.list.length ++ [byteOf page.length] ++ page.flatMap s.annEntryBytes }
  else s.refuse .range

end Sys2Proof.Machine
end

