-- ==== Sys2Proof/Machine/Testing.lean ====
section
/-!
DEFINITION. The Mode Controller's lamp test and test record (sections 10.2 and 10.3): the lamp-test state and its
OPERATOR entries, the end of a test, the start of a memory test.
-/

namespace Sys2Proof.Machine

/-! ### Lamp test (R164) -/

/-- The offer of the OPERATOR entry for the start or the end of the lamp test (Table 10-1). -/
def State.offerLampTest (s : State) (source : Source) (begins : Bool) : State :=
  s.offer { cls := .operator, source := source, subject := .none, old := 2, new := flagByte begins }

/-- A change of the host timer and the desk hold, with the OPERATOR entry when the lamp-test state changed (R164). -/
def State.setLampTest (s : State) (source : Source) (timer : Timer) (hold : Bool) : State :=
  let m := { s.mode with hostTimer := timer, deskHold := hold }
  let moved := { s with mode := m }
  if s.mode.lampTestActive = m.lampTestActive then moved else moved.offerLampTest source m.lampTestActive

/-- A desk hold start (R59). -/
def State.startDeskHold (s : State) (source : Source) : State :=
  s.setLampTest source s.mode.hostTimer true

/-- A desk hold end (R59, R63). -/
def State.endDeskHold (s : State) (source : Source) : State :=
  s.setLampTest source s.mode.hostTimer false

/-- Whether the host timer's expiry is due (R164). -/
def State.hostTimerDue (s : State) : Bool :=
  s.mode.hostTimer = .expired

/-- HOST_TIMER_EXPIRY, when it is due (R164). -/
def State.expireHostTimer (s : State) : State :=
  if s.hostTimerDue then s.setLampTest .host (.stopped 0) s.mode.deskHold else s

/-- The host timer after a LAMP TEST request of `d` seconds (Table 10-2). -/
def Timer.lampTest (t : Timer) (d : Nat) : Timer :=
  if d = 0 then .stopped 0 else .counting (max t.left (d * 1000))

/-- LAMP TEST (R165). -/
def lampTestAnswer (duration : Byte) (s : State) : Answer :=
  if duration.toNat ≤ 60 then
    if s.mode.device = .online then
      let t := s.setLampTest .host (s.mode.hostTimer.lampTest duration.toNat) s.mode.deskHold
      { state := t
        payload := [flagByte t.mode.lampTestActive, flagByte t.mode.deskHold, byteOf t.mode.hostTimer.seconds] }
    else s.refuse .mode
  else s.refuse .range

/-! ### The end of a test (R166) -/

/-- A test ends in a final state, with its TEST entry; the power-up test's has source RESET (R161, R166). -/
def State.endTest (s : State) (final : TestState) : State :=
  ({ s with mode := { s.mode with test := { s.mode.test with state := final } } }).offer
    { cls := .test
      source := if s.mode.test.powerUp then .reset else .test
      subject := .none
      old := byteOf s.mode.test.kind.code
      new := byteOf final.code }

/-- Whether a loop test is on and both loops are STOPPED (R169). -/
def State.loopTestOver (s : State) : Bool :=
  s.mode.test.kind = .loop ∧ s.mode.testOn ∧ s.loopA.state = .stopped ∧ s.loopB.state = .stopped

/-- LOOP_TEST_END: a loop test with both loops STOPPED ends ABORTED when it was ABORTING, else PASSED when no slot of
the latched maps has FAIL or NO_REPLY, and FAILED otherwise (R169; log entry 11). -/
def State.closeLoopTest (s : State) : State :=
  if s.loopTestOver then
    s.endTest
      (if s.mode.test.state = .aborting then .aborted
        else if s.mode.test.results.rows.all (fun r => r == .pass || r == .notTested) then .passed
        else .failed)
  else s

/-! ### The memory test (R167) -/

/-- What the start of a memory test clears: the point records and the ownership map (R24), the proving records (R137),
the Annunciation List (R49), the journal's ring with its sequence number kept (R161). -/
def State.clearForMemoryTest (s : State) : State :=
  { s.catchUp.withList [] with
    points := ⟨Sparse.empty, Sparse.empty⟩
    proving := Sparse.empty
    journal := s.journal.emptied }

/-- Whether a memory test is RUNNING. -/
def State.memoryTestRuns (s : State) : Bool :=
  s.mode.test.kind = .memory ∧ s.mode.test.state = .running

/-- MEMORY_TEST_COMPLETION, when a memory test is RUNNING; otherwise it is dropped (R167). -/
def State.completeMemoryTest (s : State) (passed : Bool) : State :=
  if s.memoryTestRuns then s.endTest (if passed then .passed else .failed) else s

/-- The test record of a test just started (R166). -/
def TestRecord.started (kind : TestKind) : TestRecord :=
  { TestRecord.initial with kind := kind, state := .running }

/-- READ TEST RESULTS (R172, Table 11-19). -/
def readTestResultsAnswer (s : State) : Answer :=
  let t := s.mode.test
  { state := s
    payload :=
      [byteOf t.kind.code, byteOf t.state.code, byteOf t.framesA, byteOf t.framesB] ++
        t.results.rows.map fun r => byteOf r.code }

end Sys2Proof.Machine
end

