-- ==== Sys2Proof/Machine/Desk.lean ====
section
/-!
DEFINITION. The Desk Unit (chapter 3): filters, key events, desk control.
-/

namespace Sys2Proof.Machine

/-! ### Filters (R53, R54) -/

/-- One sample at a filter: a sample at the filtered level restarts the count; the third consecutive sample of a
candidate makes it the filtered level; any other sample becomes the candidate with a count of 1. For a two-level input
this is Table 3-3. -/
def Filter.step {α : Type} [DecidableEq α] (f : Filter α) (sample : α) : Filter α :=
  if sample = f.level then ⟨f.level, none, 0⟩
  else if f.candidate = some sample then
    (if f.count + 1 = 3 then ⟨sample, none, 0⟩ else ⟨f.level, some sample, f.count + 1⟩)
  else ⟨f.level, some sample, 1⟩

/-- A filter with its level kept and its count restarted (R62). -/
def Filter.restart {α : Type} (f : Filter α) : Filter α :=
  Filter.initial f.level

/-- The Desk Unit with its pins at new levels and every filter stepped on them (R52 to R54). A LOW key line is PRESSED,
a LOW switch line is ON (Table 3-1). -/
def DeskUnit.filtered (d : DeskUnit) (pins : DeskPins) : DeskUnit :=
  { d with
    pins := pins
    ack := d.ack.step (!pins.ack)
    silence := d.silence.step (!pins.silence)
    lampTest := d.lampTest.step (!pins.lampTest)
    allSections := d.allSections.step (!pins.allSections)
    selector := d.selector.step (selectorOf pins) }

/-! ### Key events (R55 to R59) -/

/-- Whether a sample's key events are passed on: ONLINE and enabled (R56). -/
def State.passesKeys (s : State) : Bool :=
  s.mode.device = .online ∧ s.desk.enabled

/-- An ACK press handed on, if one was formed (R57). -/
def State.onAckPress (s : State) (formed : Bool) : State :=
  if formed then s.deskAcknowledge s.desk.allSections.level s.desk.selector.level else s

/-- A SILENCE press handed on, if one was formed (R58). -/
def State.onSilencePress (s : State) (formed : Bool) : State :=
  if formed then s.silenceHorn .desk else s

/-- A LAMP TEST press or release handed on, if one was formed (R59). -/
def State.onLampTestKey (s : State) (before after : Bool) : State :=
  if before = after then s else if after then s.startDeskHold .desk else s.endDeskHold .desk

/-- Whether a sample is due (R52). -/
def State.sampleDue (s : State) : Bool :=
  s.desk.timer = .expired

/-- DESK_SAMPLE, when it is due: the pins are read, the filters stepped, the timer loaded with the period as it stands,
and the key events handed on in their order (R52, R55, R56). -/
def State.sampleDesk (pins : DeskPins) (s : State) : State :=
  if s.sampleDue then
    let before := s.desk
    let after := { before.filtered pins with timer := .counting before.period }
    let sampled := { s with desk := after }
    if s.passesKeys then
      ((sampled.onAckPress (!before.ack.level && after.ack.level)).onSilencePress
        (!before.silence.level && after.silence.level)).onLampTestKey before.lampTest.level after.lampTest.level
    else sampled
  else s

/-! ### Desk control (R61 to R63) -/

/-- The Desk Unit with its sample period set (R62); an equal period leaves it as it is (R61). -/
def DeskUnit.withPeriod (d : DeskUnit) (period : Nat) : DeskUnit :=
  if period = d.period then d
  else
    { d with
      period := period
      timer := .counting period
      ack := d.ack.restart
      silence := d.silence.restart
      lampTest := d.lampTest.restart
      allSections := d.allSections.restart
      selector := d.selector.restart }

/-- The desk as the reply to SET DESK CONTROL carries it (Table 11-13). -/
def DeskUnit.bytes (d : DeskUnit) : List Byte :=
  [flagByte d.enabled, byteOf d.period, flagByte d.ack.level, flagByte d.silence.level, flagByte d.lampTest.level,
    flagByte d.allSections.level, byteOf d.selector.level.val]

/-- The desk enable flag stored; a change to disabled gives a desk hold end (R61, R63), whose OPERATOR entry has source
HOST (R164). -/
def State.setDeskEnable (s : State) (enable : Bool) : State :=
  let stored := { s with desk := { s.desk with enabled := enable } }
  if s.desk.enabled ∧ enable = false then stored.endDeskHold .host else stored

/-- SET DESK CONTROL (R61). -/
def setDeskControlAnswer (enable period : Byte) (s : State) : Answer :=
  if enable.toNat ≤ 1 ∧ (period = 1 ∨ period = 4 ∨ period = 16) then
    let t := s.setDeskEnable (enable = 1)
    let desk := t.desk.withPeriod period.toNat
    { state := { t with desk := desk }, payload := desk.bytes }
  else s.refuse .range

end Sys2Proof.Machine
end

