-- ==== Sys2Proof/Machine/Journal.lean ====
section
/-!
DEFINITION. The Journal Unit's requests (chapter 9): READ JOURNAL and SET JOURNAL SELECTION. Offers and appends stand
in Ops.lean.
-/

namespace Sys2Proof.Machine

/-- The code of a subject kind (Table 11-9). -/
def Subject.kindCode : Subject → Byte
  | .none => 0
  | .point _ => 1
  | .tile _ _ => 2
  | .outstation _ => 3

/-- A subject as one number; a tile is loop index × 32 + slot (section 9.1). -/
def Subject.number : Subject → Nat
  | .none => 0
  | .point p => p
  | .tile l slot => loopIndex l * 32 + slot.val
  | .outstation n => n.val

/-- A journal entry as READ JOURNAL returns it (Table 11-9). -/
def JournalEntry.bytes (e : JournalEntry) : List Byte :=
  wordBytes e.seq ++ wordBytes e.time ++
    [byteOf e.cls.code, byteOf e.source.code, e.subject.kindCode] ++ halfBytes e.subject.number ++
    [e.old, e.new, byteOf e.details.length] ++
    e.details.flatMap fun i => [byteOf i.1.val, byteOf i.2.code]

/-- The bytes an entry takes in a reply (R151). -/
def JournalEntry.size (e : JournalEntry) : Nat :=
  16 + 2 * e.details.length

/-- The entries taken from the oldest end: while fewer than `n` have been taken and the next fits the space left
(R158). -/
def takeEntries : Nat → Nat → List JournalEntry → List JournalEntry
  | _, _, [] => []
  | 0, _, _ :: _ => []
  | n + 1, space, e :: rest => if e.size ≤ space then e :: takeEntries n (space - e.size) rest else []

/-- READ JOURNAL (R158, R159). -/
def readJournalAnswer (count : Byte) (s : State) : Answer :=
  if 1 ≤ count.toNat ∧ count.toNat ≤ 16 then
    let taken := takeEntries count.toNat Config.journalReplySpace s.journal.ring
    let left := s.journal.ring.drop taken.length
    { state := { s with journal := { s.journal with ring := left, attn := !left.isEmpty } }
      payload := [byteOf taken.length] ++ halfBytes left.length ++ taken.flatMap JournalEntry.bytes }
  else s.refuse .range

/-- The selections a selection value stands for (R154). -/
def Selection.ofValue (v : Byte) : Selection :=
  ⟨v.getLsbD 0, v.getLsbD 1, v.getLsbD 2, v.getLsbD 3⟩

/-- The selection value of a section (R154). -/
def Selection.value (x : Selection) : Byte :=
  byteOf
    ((if x.alarm then 1 else 0) + (if x.ack then 2 else 0) + (if x.change then 4 else 0) +
      (if x.admin then 8 else 0))

/-- SET JOURNAL SELECTION (R154); `values` holds 16 values when the gate has let it pass. -/
def setJournalSelectionAnswer (values : List Byte) (s : State) : Answer :=
  if values.all (fun v => v.toNat ≤ 15) then
    let table : Bank 16 Selection := Bank.make fun k => Selection.ofValue (values.getD k.val 0)
    { state := { s with journal := { s.journal with selection := table } }
      payload := table.rows.map Selection.value }
  else s.refuse .range

end Sys2Proof.Machine
end

