-- ==== Sys2Proof/Machine/Proving.lean ====
section
/-!
DEFINITION. The Proving Unit (chapter 7): observations, verdicts and streaks, the comparison of a slot, the listing of
the faulty lamps.
-/

namespace Sys2Proof.Machine

/-! ### Observations and verdicts (R127 to R129) -/

/-- The observations of Table 7-5. -/
inductive Observation where
  | onGood
  | offGood
  | darkFault
  | litFault
  deriving DecidableEq, Repr

/-- The observation a commanded flag and a sense flag give (Table 7-5). -/
def observationOf : Bool → Bool → Observation
  | true, true => .onGood
  | false, false => .offGood
  | true, false => .darkFault
  | false, true => .litFault

/-- The verdict of a fault kind. -/
def FaultKind.verdict : FaultKind → Verdict
  | .dark => .dark
  | .lit => .lit

/-- A fault observation under UNPROVEN or GOOD (R128): at a streak of 3 the verdict changes. -/
def ProvingRecord.faultStep (r : ProvingRecord) (k : FaultKind) : ProvingRecord :=
  let streak := if r.kind = some k then r.streak + 1 else 1
  if streak = 3 then ⟨k.verdict, 0, none⟩ else ⟨r.verdict, streak, some k⟩

/-- A recovery observation under DARK or LIT (Table 7-6): at a streak of 3 the verdict is GOOD. -/
def ProvingRecord.recoveryStep (r : ProvingRecord) : ProvingRecord :=
  if r.streak + 1 = 3 then ⟨.good, 0, none⟩ else { r with streak := r.streak + 1 }

/-- The move of a proving record at an observation (Table 7-6). -/
def ProvingRecord.observe (r : ProvingRecord) (o : Observation) : ProvingRecord :=
  match r.verdict, o with
  | .unproven, .onGood => ⟨.good, 0, none⟩
  | .unproven, .offGood => r
  | .unproven, .darkFault => r.faultStep .dark
  | .unproven, .litFault => r.faultStep .lit
  | .good, .onGood => ⟨.good, 0, none⟩
  | .good, .offGood => ⟨.good, 0, none⟩
  | .good, .darkFault => r.faultStep .dark
  | .good, .litFault => r.faultStep .lit
  | .dark, .onGood => r.recoveryStep
  | .dark, .offGood => r
  | .dark, .darkFault => { r with streak := 0 }
  | .dark, .litFault => r
  | .lit, .onGood => r
  | .lit, .offGood => r.recoveryStep
  | .lit, .darkFault => r
  | .lit, .litFault => { r with streak := 0 }

/-- The proving records with a lamp's replaced; a record at its reset value is not listed. -/
def putProving (t : Sparse ProvingRecord) (lamp : Nat) (r : ProvingRecord) : Sparse ProvingRecord :=
  if r = ProvingRecord.initial then t.erase lamp else t.put lamp r

/-! ### The comparison of a slot (R126, R127, R130, R131) -/

/-- What a slot end hands to the Proving Unit (R115). -/
structure SlotReport where
  loop      : Loop
  slot      : Fin 32
  reply     : Option TileReply
  latched   : Option TileSize
  before    : TileState
  after     : TileState
  prevReply : Bool
  commanded : Flags

/-- The conditions of Table 7-3. -/
def SlotReport.comparable (r : SlotReport) : Bool :=
  match r.reply with
  | none => false
  | some w => w.rightSize r.latched ∧ w.driveFault = false ∧ r.prevReply ∧ r.before = .present ∧ r.after = .present

/-- The lamp number of an output of the reported slot. -/
def SlotReport.lamp (r : SlotReport) (output : Nat) : Nat :=
  lampNumber r.loop r.slot.val output

/-- The outputs compared: 0 to z − 1 for the latched size z (R127). -/
def SlotReport.outputs (r : SlotReport) : List (Fin 64) :=
  (List.finRange 64).filter fun o => o.val < (r.latched.map TileSize.outputs).getD 0

/-- The record of an output after its observation (R127, R129). -/
def SlotReport.observed (r : SlotReport) (sense : Flags) (t : Sparse ProvingRecord) (o : Fin 64) : ProvingRecord :=
  (provingOf t (r.lamp o.val)).observe
    (observationOf (r.commanded.getLsbD o.val) (sense.getLsbD o.val))

/-- The outputs whose verdict the comparison changes, ascending, with the new verdicts (R130, R131). -/
def SlotReport.changes (r : SlotReport) (sense : Flags) (t : Sparse ProvingRecord) : List (Fin 64 × Verdict) :=
  (r.outputs.filter fun o =>
    (r.observed sense t o).verdict ≠ (provingOf t (r.lamp o.val)).verdict).map
      fun o => (o, (r.observed sense t o).verdict)

/-- The proving records after the comparison. -/
def SlotReport.moved (r : SlotReport) (sense : Flags) (t : Sparse ProvingRecord) : Sparse ProvingRecord :=
  r.outputs.foldl (fun u o => putProving u (r.lamp o.val) (r.observed sense t o)) t

/-- The number of outputs of a slot, of all 64, whose verdict is DARK or LIT (R131). -/
def faultyOutputs (t : Sparse ProvingRecord) (l : Loop) (slot : Nat) : Nat :=
  ((List.range 64).filter fun o => (provingOf t (lampNumber l slot o)).verdict.faulty).length

/-- SLOT_COMPARISON: the records move, and one LAMP entry is offered if a verdict changed (R130, R131). -/
def State.compareSlot (s : State) (r : SlotReport) : State :=
  match r.reply with
  | none => s
  | some w =>
    if r.comparable then
      let records := r.moved w.sense s.proving
      let items := r.changes w.sense s.proving
      let moved := { s with proving := records }
      if items = [] then moved
      else
        moved.offer
          { cls := .lamp
            source := loopSource r.loop
            subject := .tile r.loop r.slot
            old := byteOf items.length
            new := byteOf (faultyOutputs records r.loop r.slot.val)
            details := items }
    else s

/-! ### Listing (R135, Table 7-7) -/

/-- The faulty lamps of a table, ascending. -/
def faultyLamps (t : Sparse ProvingRecord) : List (Nat × Verdict) :=
  (t.cells.filter fun c => c.2.verdict.faulty).map fun c => (c.1, c.2.verdict)

/-- READ LAMP FAULTS (R135). -/
def readLampFaultsAnswer (start : Half) (s : State) : Answer :=
  if start.toNat < 4096 then
    let faulty := faultyLamps s.proving
    let wanted := faulty.filter fun c => start.toNat ≤ c.1
    let listed := wanted.take 256
    let next : Nat :=
      match (wanted.drop 256), listed.getLast? with
      | _ :: _, some last => last.1 + 1
      | _, _ => 0xFFFF
    { state := s
      payload :=
        halfBytes faulty.length ++ halfBytes listed.length ++ halfBytes next ++
          listed.flatMap fun c => halfBytes c.1 ++ [byteOf c.2.code] }
  else s.refuse .range

end Sys2Proof.Machine
end

