-- ==== Sys2Proof/Machine/Loops.lean ====
section
/-!
DEFINITION. The Loop Controllers (chapter 6) and the loop test's part in them (section 10.3): loop start and stop, frame
timer, frame start, slot end, frame end, tile records, and the answers to the loop requests.
-/

namespace Sys2Proof.Machine

/-! ### Tiles (R112 to R117) -/

/-- A tile's state and drive-fault flag as a TILE entry codes them (R117). -/
def Tile.code (t : Tile) : Byte :=
  byteOf (t.state.code + (if t.driveFault then 16 else 0))

/-- The offer of a TILE entry when an event changed a tile's state or drive-fault flag (R117). -/
def State.offerTile (s : State) (l : Loop) (slot : Fin 32) (old new : Tile) : State :=
  if old.state = new.state ∧ old.driveFault = new.driveFault then s
  else
    s.offer { cls := .tile, source := loopSource l, subject := .tile l slot, old := old.code, new := new.code }

/-- A tile out of the map or stopped: streaks 0, drive-fault flag clear (R103, R107, R123). -/
def Tile.cleared (t : Tile) (state : TileState) : Tile :=
  { t with state := state, missStreak := 0, replyStreak := 0, driveFault := false }

/-- A tile at a loop stop or a software reset: JOINING when enabled, DISABLED otherwise (R103, R123). -/
def Tile.stopped (t : Tile) : Tile :=
  t.cleared (if t.enabled then .joining else .disabled)

/-- A tile brought in step with the map latched at a frame start (R107). -/
def Tile.latched (t : Tile) : Tile :=
  if t.enabled then (if t.state = .disabled then { t with state := .joining } else t)
  else if t.state = .disabled then t
  else t.cleared .disabled

/-- One more slot end without a valid reply: at a miss streak of 3 the tile is ABSENT (Table 6-4). -/
def Tile.missed (t : Tile) : Tile :=
  if t.missStreak + 1 = 3 then { t with state := .absent, missStreak := 0 }
  else { t with missStreak := t.missStreak + 1 }

/-- One more valid reply of an ABSENT tile: at a reply streak of 3 it returns, by the size of this reply (Table 6-4). -/
def Tile.answered (t : Tile) (right : Bool) : Tile :=
  if t.replyStreak + 1 = 3 then { t with state := if right then .present else .mismatched, replyStreak := 0 }
  else { t with replyStreak := t.replyStreak + 1 }

/-- The move of a tile's state and streaks at a slot end (Table 6-4): `reply` is absent for no reply, else tells
whether the valid reply is right size. A DISABLED tile has no slot end. -/
def Tile.slotMove (t : Tile) (reply : Option Bool) : Tile :=
  match t.state, reply with
  | .disabled, _ => t
  | .joining, some right => { t with state := if right then .present else .mismatched, missStreak := 0 }
  | .joining, none => t.missed
  | .present, some right => { t with state := if right then .present else .mismatched, missStreak := 0 }
  | .present, none => t.missed
  | .mismatched, some right => { t with state := if right then .present else .mismatched, missStreak := 0 }
  | .mismatched, none => t.missed
  | .absent, some right => t.answered right
  | .absent, none => { t with replyStreak := 0 }

/-- The tile record after a slot end of a RUNNING loop (R113, R114). -/
def Tile.afterSlot (t : Tile) (reply : Option TileReply) (latched : Option TileSize) : Tile :=
  match reply with
  | none => t.slotMove none
  | some w => { t.slotMove (some (w.rightSize latched)) with driveFault := w.driveFault }

/-! ### Words on the loop line (R108, R111, R183, Table 11-11) -/

/-- The header of a frame. -/
def headerBytes (kind : FrameKind) (intensity : Fin 16) : List Byte :=
  [0x7E, (match kind with | .normal => 0 | .test => 1), byteOf intensity.val]

/-- The flags a TEST frame sends, by the number of frames done before it (R168). -/
def testPattern (done : Nat) : Flags :=
  if done % 4 = 0 then 0xFFFFFFFFFFFFFFFF
  else if done % 4 = 1 then 0
  else if done % 4 = 2 then 0x5555555555555555
  else 0xAAAAAAAAAAAAAAAA

/-- The frames a loop has done in a loop test (Table 10-3). -/
def TestRecord.frames (t : TestRecord) : Loop → Nat
  | .a => t.framesA
  | .b => t.framesB

/-- The test record with a loop's frame count replaced. -/
def TestRecord.withFrames (t : TestRecord) (l : Loop) (n : Nat) : TestRecord :=
  match l with
  | .a => { t with framesA := n }
  | .b => { t with framesB := n }

/-- The flags the frame in transfer sends to a slot (R111, R168). -/
def State.sentFlags (s : State) (l : Loop) (kind : FrameKind) (slot : Fin 32) : Flags :=
  match kind with
  | .normal => (s.loop l).front.flags.get slot
  | .test => testPattern (s.mode.test.frames l)

/-- A slot word. -/
def slotWord (slot : Fin 32) (flags : Flags) : List Byte :=
  byteOf slot.val :: flagBytes flags

/-- The slot word of the first slot still to transfer, if there is one. -/
def State.nextWord (s : State) (l : Loop) (kind : FrameKind) : List (Fin 32) → List Byte
  | [] => []
  | slot :: _ => slotWord slot (s.sentFlags l kind slot)

/-- The slots of a latched map, ascending (R111). -/
def slotsOf (latched : Bank 32 (Option TileSize)) : List (Fin 32) :=
  (List.finRange 32).filter fun slot => (latched.get slot).isSome

/-- The slot map latched from the stored configuration (R107). -/
def mapOf (tiles : Bank 32 Tile) : Bank 32 (Option TileSize) :=
  tiles.map fun t => if t.enabled then some t.size else none

/-! ### Loop start and stop (R101 to R103) -/

/-- LOOP_START: a STOPPED loop enters RUNNING (R101). -/
def State.startLoop (s : State) (l : Loop) : State :=
  let c := s.loop l
  (s.withLoop l
    { c with
      state := .running
      front := Image.allDark s.intensity
      timer := .counting c.period }).askCompose l

/-- A STOPPING loop returns to RUNNING, and asks for a pass when its back image is INCOMPLETE (R83, R102). -/
def State.resumeLoop (s : State) (l : Loop) : State :=
  let c := s.loop l
  let moved := s.withLoop l { c with state := .running }
  if c.backComplete then moved else moved.askCompose l

/-- SET MODE ONLINE at a loop (Table 6-2). -/
def State.loopOnline (s : State) (l : Loop) : State :=
  match (s.loop l).state with
  | .stopped => s.startLoop l
  | .stopping => s.resumeLoop l
  | .running => s
  | .testing => s

/-- A loop controller that becomes STOPPED (R103). -/
def LoopController.stop (c : LoopController) : LoopController :=
  { c with
    state := .stopped
    timer := .stopped 0
    transfer := none
    startPending := false
    backComplete := false
    latched := Bank.fill 32 none
    thisReply := Bank.fill 32 false
    prevReply := Bank.fill 32 false
    repeated := false
    tiles := c.tiles.map Tile.stopped
    line := [] }

/-- LOOP_STOP: the loop becomes STOPPED; its compose request is withdrawn and its pass discarded (R85, R103). -/
def State.stopLoop (s : State) (l : Loop) : State :=
  { s.withLoop l (s.loop l).stop with composer := s.composer.drop l }

/-- SET MODE OFFLINE at a loop (R102, R85). -/
def State.loopOffline (s : State) (l : Loop) : State :=
  match (s.loop l).state with
  | .running =>
    if (s.loop l).transfer.isSome then
      { s.withLoop l { s.loop l with state := .stopping } with composer := s.composer.withdraw l }
    else s.stopLoop l
  | .stopping => s
  | .stopped => s
  | .testing => s

/-! ### Frame timer (R104) -/

/-- Whether a frame timer's expiry is due: it has expired, and its frame start is not yet pending (R104). -/
def State.frameTimerDue (s : State) (l : Loop) : Bool :=
  (s.loop l).timer == .expired && !(s.loop l).startPending

/-- FRAME_TIMER_EXPIRY, when it is due: the frame start is pending. With no frame in transfer it is due at once, and
FRAME_START takes it before any other event (R104; log entry 4). -/
def State.expireFrameTimer (l : Loop) (s : State) : State :=
  if s.frameTimerDue l then s.withLoop l { s.loop l with startPending := true } else s

/-! ### Frame start (R106, R107, R168) -/

/-- Whether a frame start is due: it is pending, no frame is in transfer, and the loop is RUNNING or TESTING
(R104, R109, R168). -/
def State.frameStartDue (s : State) (l : Loop) : Bool :=
  let c := s.loop l
  c.startPending && c.transfer.isNone && (c.state == .running || c.state == .testing)

/-- The TILE entries of a slot map latch, in ascending slot order (R107; log entry 16). -/
def State.offerLatched (s : State) (l : Loop) (tiles : Bank 32 Tile) : State :=
  (List.finRange 32).foldl (fun t slot => t.offerTile l slot (tiles.get slot) (tiles.get slot).latched) s

/-- A loop controller at a NORMAL frame start: the map latched, the tiles brought in step, the images swapped or the
front image repeated, the reply records of this frame cleared (R106, R107). -/
def LoopController.normalStart (c : LoopController) : LoopController :=
  let front := if c.backComplete then c.back else c.front
  { c with
    startPending := false
    timer := .counting c.period
    latched := mapOf c.tiles
    tiles := c.tiles.map Tile.latched
    front := front
    back := if c.backComplete then c.front else c.back
    backComplete := false
    repeated := !c.backComplete
    thisReply := Bank.fill 32 false
    transfer := some ⟨.normal, front.intensity, slotsOf (mapOf c.tiles)⟩ }

/-- A loop controller at a TEST frame start, at the intensity setting (R168). -/
def LoopController.testStart (c : LoopController) (intensity : Fin 16) : LoopController :=
  { c with
    startPending := false
    timer := .counting c.period
    thisReply := Bank.fill 32 false
    transfer := some ⟨.test, intensity, slotsOf c.latched⟩ }

/-- The header and the first slot word of the frame just started go out on the line (R106, R111). -/
def State.sendHeader (s : State) (l : Loop) : State :=
  match (s.loop l).transfer with
  | none => s
  | some t =>
    s.withLoop l
      { s.loop l with line := headerBytes t.kind t.intensity ++ s.nextWord l t.kind t.remaining }

/-- A NORMAL frame start (R106): the compose request follows a swap; a repeat makes none. -/
def State.startNormalFrame (s : State) (l : Loop) : State :=
  let c := s.loop l
  let latched := (s.withLoop l c.normalStart).offerLatched l c.tiles
  let asked := if c.backComplete then latched.askCompose l else latched
  asked.sendHeader l

/-- A TEST frame start (R168). -/
def State.startTestFrame (s : State) (l : Loop) : State :=
  (s.withLoop l ((s.loop l).testStart s.intensity)).sendHeader l

/-- FRAME_START, when it is due. -/
def State.startFrame (l : Loop) (s : State) : State :=
  if s.frameStartDue l then
    match (s.loop l).state with
    | .running => s.startNormalFrame l
    | .testing => s.startTestFrame l
    | .stopped => s
    | .stopping => s
  else s

/-! ### Slot end (R111 to R116, R168) -/

/-- The end of the transfer of the first remaining slot: the next slot word goes out, and a valid reply makes the slot's
this-frame reply record yes, whatever the loop state (R111). -/
def State.endTransfer (s : State) (l : Loop) (t : Transfer) (slot : Fin 32) (rest : List (Fin 32)) (valid : Bool) :
    State :=
  let c := s.loop l
  s.withLoop l
    { c with
      transfer := some { t with remaining := rest }
      line := s.nextWord l t.kind rest
      thisReply := if valid then c.thisReply.put slot true else c.thisReply }

/-- A slot end of a RUNNING loop: the tile moves, its TILE entry is offered, and the slot end is handed to the Proving
Unit (R113 to R115). -/
def State.runningSlotEnd (s : State) (l : Loop) (slot : Fin 32) (reply : Option TileReply) : State :=
  let c := s.loop l
  let before := c.tiles.get slot
  let after := before.afterSlot reply (c.latched.get slot)
  let moved := (s.withLoop l { c with tiles := c.tiles.put slot after }).offerTile l slot before after
  moved.compareSlot
    { loop := l
      slot := slot
      reply := reply
      latched := c.latched.get slot
      before := before.state
      after := after.state
      prevReply := c.prevReply.get slot
      commanded := c.previous.get slot }

/-- The index of a tile's result: loop index × 32 + slot (section 10.3). -/
def tileIndex (l : Loop) (slot : Fin 32) : Fin 64 :=
  match l with
  | .a => ⟨slot.val, by omega⟩
  | .b => ⟨32 + slot.val, by omega⟩

/-- Whether a test echo differs from the flags sent for an output below the latched size (R168). -/
def echoDiffers (sent echo : Flags) (latched : Option TileSize) : Bool :=
  (List.range ((latched.map TileSize.outputs).getD 0)).any fun o => sent.getLsbD o != echo.getLsbD o

/-- A tile result after a slot end of a TESTING loop (R168). -/
def TileResult.afterSlot (r : TileResult) (reply : Option TileReply) (latched : Option TileSize) (sent : Flags) :
    TileResult :=
  match reply with
  | none => .noReply
  | some w =>
    if (!w.rightSize latched || echoDiffers sent w.sense latched) && r == .notTested then .fail else r

/-- A slot end of a TESTING loop (R168). -/
def State.testingSlotEnd (s : State) (l : Loop) (slot : Fin 32) (reply : Option TileReply) : State :=
  let i := tileIndex l slot
  let result := (s.mode.test.results.get i).afterSlot reply ((s.loop l).latched.get slot) (s.sentFlags l .test slot)
  { s with mode :=
    { s.mode with test := { s.mode.test with results := s.mode.test.results.put i result } } }

/-- SLOT_END, when a slot is in transfer: the reply is judged (R111), and the slot end carried on by the loop state. -/
def State.endSlot (s : State) (l : Loop) (window : List RxChar) : State :=
  match (s.loop l).transfer with
  | none => s
  | some t =>
    match t.remaining with
    | [] => s
    | slot :: rest =>
      let reply := tileReplyOf window
      let ended := s.endTransfer l t slot rest reply.isSome
      match (s.loop l).state with
      | .running => ended.runningSlotEnd l slot reply
      | .testing => ended.testingSlotEnd l slot reply
      | .stopping => ended
      | .stopped => ended

/-! ### Frame end (R109, R168, R169) -/

/-- A loop controller at the end of a NORMAL frame (R109). -/
def LoopController.normalEnd (c : LoopController) : LoopController :=
  { c with previous := c.front.flags, prevReply := c.thisReply, transfer := none, line := [] }

/-- A loop controller at the end of a TEST frame: its images and tile records stay (R168). -/
def LoopController.testEnd (c : LoopController) : LoopController :=
  { c with prevReply := c.thisReply, transfer := none, line := [] }

/-- The results at a loop's eighth frame end: every tile of its latched map still NOT_TESTED becomes PASS
(R168, R169; log entry 12). -/
def passUntested (results : Bank 64 TileResult) (l : Loop) (latched : Bank 32 (Option TileSize)) :
    Bank 64 TileResult :=
  (slotsOf latched).foldl
    (fun b slot => if b.get (tileIndex l slot) = .notTested then b.put (tileIndex l slot) .pass else b) results

/-- The test record at a TEST frame end: one frame more, and the PASS results at the eighth (R168). -/
def TestRecord.frameDone (t : TestRecord) (l : Loop) (latched : Bank 32 (Option TileSize)) : TestRecord :=
  let counted := t.withFrames l (t.frames l + 1)
  if t.frames l + 1 = 8 then { counted with results := passUntested t.results l latched } else counted

/-- A TEST frame end: after the eighth, or when the test is ABORTING, the loop becomes STOPPED, and the test may end
(R168 to R170). -/
def State.endTestFrame (s : State) (l : Loop) : State :=
  let c := s.loop l
  let test := s.mode.test.frameDone l c.latched
  let ended := { s.withLoop l c.testEnd with mode := { s.mode with test := test } }
  if test.frames l = 8 ∨ test.state = .aborting then (ended.stopLoop l).closeLoopTest else ended

/-- Whether a frame end is due: a frame is in transfer and its last slot transfer has ended (R109). -/
def State.frameEndDue (s : State) (l : Loop) : Bool :=
  match (s.loop l).transfer with
  | none => false
  | some t => t.remaining = []

/-- FRAME_END, when it is due. A pending frame start of a loop that goes on is then due at once (R109). -/
def State.endFrame (s : State) (l : Loop) : State :=
  if s.frameEndDue l then
    match (s.loop l).state with
    | .running => s.withLoop l (s.loop l).normalEnd
    | .stopping => (s.withLoop l (s.loop l).normalEnd).stopLoop l
    | .testing => s.endTestFrame l
    | .stopped => s
  else s

/-! ### The loop test's start and abort (R168, R170) -/

/-- LOOP_TEST_START at one loop: the map is latched without moving a tile, and the first TEST frame start is due at
once (R168). -/
def State.startLoopTest (s : State) (l : Loop) : State :=
  let c := s.loop l
  s.withLoop l
    { c with
      state := .testing
      timer := .counting c.period
      latched := mapOf c.tiles
      startPending := true }

/-- RUN TEST (R166). -/
def runTestAnswer (kind : Byte) (s : State) : Answer :=
  if kind = 1 ∨ kind = 2 then
    if s.mode.device = .offline ∧ s.loopA.state = .stopped ∧ s.loopB.state = .stopped then
      let record := TestRecord.started (if kind = 1 then .memory else .loop)
      let set := { s with mode := { s.mode with test := record } }
      { state := if kind = 1 then set.clearForMemoryTest else (set.startLoopTest .a).startLoopTest .b }
    else s.refuse .mode
  else s.refuse .range

/-- An abort at one loop: a TESTING loop with no frame in transfer becomes STOPPED at once (R170). -/
def State.abortLoop (s : State) (l : Loop) : State :=
  if (s.loop l).state = .testing ∧ (s.loop l).transfer.isNone then s.stopLoop l else s

/-- What an ABORT TEST does to a test that is on (R167, R170). -/
def State.abortTest (s : State) : State :=
  if s.mode.test.state = .aborting then s
  else if s.mode.test.kind = .memory then s.endTest .aborted
  else
    let marked := { s with mode := { s.mode with test := { s.mode.test with state := .aborting } } }
    ((marked.abortLoop .a).abortLoop .b).closeLoopTest

/-- ABORT TEST (R170). -/
def abortTestAnswer (s : State) : Answer :=
  if s.mode.testOn then { state := s.abortTest, payload := [byteOf s.abortTest.mode.test.state.code] }
  else s.refuse .noTest

/-! ### Loop requests (R105, R118 to R120) -/

/-- CONFIGURE TILE (R118). -/
def configureTileAnswer (loop slot size enable : Byte) (s : State) : Answer :=
  match loopOfCode loop, boundedOf 32 slot.toNat, TileSize.ofCode size, yesNoOf enable with
  | some l, some n, some z, some e =>
    let c := s.loop l
    { state := s.withLoop l { c with tiles := c.tiles.put n { c.tiles.get n with size := z, enabled := e } } }
  | _, _, _, _ => s.refuse .range

/-- SET LOOP TIMING (R105). -/
def setLoopTimingAnswer (loop : Byte) (period : Half) (s : State) : Answer :=
  match loopOfCode loop with
  | none => s.refuse .range
  | some l =>
    if 20 ≤ period.toNat ∧ period.toNat ≤ 200 then
      { state := s.withLoop l { s.loop l with period := period.toNat } }
    else s.refuse .range

/-- SET INTENSITY (R119). -/
def setIntensityAnswer (value : Byte) (s : State) : Answer :=
  match boundedOf 16 value.toNat with
  | none => s.refuse .range
  | some v => { state := { s with intensity := v } }

/-- One slot of READ LOOP STATUS (Table 11-16). -/
def LoopController.slotBytes (c : LoopController) (slot : Fin 32) : List Byte :=
  let t := c.tiles.get slot
  [byteOf t.size.outputs, flagByte t.enabled, byteOf (((c.latched.get slot).map TileSize.outputs).getD 0),
    byteOf t.state.code, byteOf t.missStreak, byteOf t.replyStreak, flagByte t.driveFault]

/-- READ LOOP STATUS (R120, Table 11-16). -/
def readLoopStatusAnswer (loop : Byte) (s : State) : Answer :=
  match loopOfCode loop with
  | none => s.refuse .range
  | some l =>
    let c := s.loop l
    { state := s
      payload :=
        [loop, byteOf c.state.code] ++ halfBytes c.period ++
          [flagByte c.repeated, flagByte c.transfer.isSome, byteOf s.intensity.val] ++
          (List.finRange 32).flatMap c.slotBytes }

end Sys2Proof.Machine
end

