-- ==== Sys2Proof/Machine/Supervision.lean ====
section
/-!
DEFINITION. The Supervision Unit (chapter 8): the link countdown and good frames, the Outstation Table and refreshes,
and the answers to its requests.
-/

namespace Sys2Proof.Machine

/-! ### Records -/

/-- The state with the link record replaced. -/
def State.withLink (s : State) (r : LinkRecord) : State :=
  { s with supervision := { s.supervision with link := r } }

/-- The state with an outstation's record replaced. -/
def State.withOutstation (s : State) (n : Fin 128) (o : Outstation) : State :=
  { s with supervision := { s.supervision with outstations := s.supervision.outstations.put n o } }

/-- The offer of a SUPERVISION entry for the link (R148). -/
def State.offerLink (s : State) (old new : LinkState) : State :=
  s.offer { cls := .supervision, source := .supervision, subject := .none, old := old.code, new := new.code }

/-- The offer of a SUPERVISION entry for an outstation (R148). -/
def State.offerOutstation (s : State) (n : Fin 128) (old new : OutstationState) : State :=
  s.offer
    { cls := .supervision, source := .supervision, subject := .outstation n, old := old.code, new := new.code }

/-! ### The link (R138 to R142) -/

/-- The link record with its countdown loaded with the period × 1000: it counts when the mode watches the link and the
state is HEALTHY, and is stopped with the value otherwise (R139, R142). -/
def LinkRecord.loaded (r : LinkRecord) : LinkRecord :=
  { r with countdown :=
      if r.mode ≠ .off ∧ r.state = .healthy then .counting (r.period * 1000) else .stopped (r.period * 1000) }

/-- Whether the link countdown's expiry is due (R139). -/
def State.linkDue (s : State) : Bool :=
  s.supervision.link.countdown = .expired

/-- LINK_COUNTDOWN_EXPIRY, when it is due (R139). -/
def State.expireLink (s : State) : State :=
  if s.linkDue then
    (s.catchUp.withLink { s.supervision.link with state := .lost, countdown := .stopped 0 }).offerLink .healthy .lost
  else s

/-- A good frame (R140). -/
def State.goodFrame (s : State) : State :=
  match s.supervision.link.state with
  | .healthy => s.withLink s.supervision.link.loaded
  | .lost =>
    (s.catchUp.withLink ({ s.supervision.link with state := .healthy } : LinkRecord).loaded).offerLink .lost .healthy

/-- The mode a mode code names (R141). -/
def LinkMode.ofCode (code : Byte) : Option LinkMode :=
  if code = 0 then some .off
  else if code = 1 then some .on
  else if code = 2 then some .locked
  else none

/-- Whether the mode held lets a SET SUPERVISION be taken (Table 8-2). -/
def LinkRecord.permits (r : LinkRecord) (mode : LinkMode) (period : Nat) : Bool :=
  r.mode ≠ .locked ∨ (mode = .locked ∧ period = r.period)

/-- The record after the three steps of R142. A countdown stopped by a change to OFF holds the value last loaded
(R139). -/
def LinkRecord.set (r : LinkRecord) (mode : LinkMode) (period : Nat) : LinkRecord :=
  let stored : LinkRecord :=
    { r with
      mode := mode
      period := period
      state := if mode = .off then .healthy else r.state }
  if mode = r.mode ∧ period = r.period then r
  else if period ≠ r.period ∨ mode = .off ∨ r.mode = .off then stored.loaded
  else stored

/-- SET SUPERVISION (R141, R142). -/
def setSupervisionAnswer (mode period : Byte) (s : State) : Answer :=
  match LinkMode.ofCode mode with
  | none => s.refuse .range
  | some m =>
    if period = 0 then s.refuse .range
    else if s.supervision.link.permits m period.toNat then
      let held := s.supervision.link
      let now := held.set m period.toNat
      { state :=
          if held.state = .lost ∧ now.state = .healthy then (s.catchUp.withLink now).offerLink .lost .healthy
          else s.withLink now
        payload := [byteOf now.mode.code, byteOf now.period, now.state.code, byteOf now.countdown.seconds] }
    else s.refuse .locked

/-! ### Outstations (R143 to R147) -/

/-- Whether an outstation's expiry is due (R144). -/
def State.outstationDue (s : State) (n : Fin 128) : Bool :=
  (s.supervision.outstations.get n).countdown = .expired

/-- OUTSTATION_COUNTDOWN_EXPIRY, when it is due (R144). -/
def State.expireOutstation (n : Fin 128) (s : State) : State :=
  if s.outstationDue n then
    (s.catchUp.withOutstation n
      { s.supervision.outstations.get n with state := .failed, countdown := .stopped 0 }).offerOutstation n
        .healthy .failed
  else s

/-- A refresh of an outstation (R144). Its callers have let the pass in flight catch up. -/
def State.refresh (s : State) (n : Fin 128) : State :=
  let o := s.supervision.outstations.get n
  match o.state with
  | .unsupervised => s
  | .healthy => s.withOutstation n { o with countdown := .counting (o.period * 1000) }
  | .failed =>
    (s.withOutstation n { o with state := .healthy, countdown := .counting (o.period * 1000) }).offerOutstation
      n .failed .healthy

/-- What a list of positions has given so far: the state, the number applied, and the first position skipped
(R16, R145). -/
structure Batch where
  state   : State
  applied : Nat
  skipped : Option Nat

/-- The reply fields of a batch: applied count, first skipped position or 0xFF (R16, R145). -/
def Batch.payload (b : Batch) : List Byte :=
  [byteOf b.applied, valueByte b.skipped]

/-- A position applied, with the state it leaves. -/
def Batch.apply (b : Batch) (s : State) : Batch :=
  { b with state := s, applied := b.applied + 1 }

/-- A position skipped. -/
def Batch.skip (b : Batch) (position : Nat) : Batch :=
  { b with skipped := some (b.skipped.getD position) }

/-- The numbers of a SITE HEARTBEAT from a position on, taken in order (R145). -/
def heartbeatFrom (position : Nat) : List Byte → Batch → Batch
  | [], b => b
  | x :: rest, b =>
    heartbeatFrom (position + 1) rest
      (match boundedOf 128 x.toNat with
      | some n => b.apply (b.state.catchUp.refresh n)
      | none => b.skip position)

/-- SITE HEARTBEAT (R145). -/
def siteHeartbeatAnswer (outstations : List Byte) (s : State) : Answer :=
  let b := heartbeatFrom 0 outstations ⟨s, 0, none⟩
  { state := b.state, payload := b.payload }

/-- The record after a new period is stored (Table 8-4). -/
def Outstation.withPeriod (o : Outstation) (period : Nat) : Outstation :=
  if period = 0 then { period := 0, countdown := .stopped 0, state := .unsupervised }
  else
    match o.state with
    | .unsupervised => { period := period, countdown := .counting (period * 1000), state := .healthy }
    | .healthy => { period := period, countdown := .counting (period * 1000), state := .healthy }
    | .failed => { period := period, countdown := .stopped 0, state := .failed }

/-- One record's new period, with the entry of the FAILED-to-UNSUPERVISED cell (R146). -/
def State.storePeriod (s : State) (n : Fin 128) (period : Nat) : State :=
  let o := s.supervision.outstations.get n
  if o.state = .failed ∧ period = 0 then
    (s.catchUp.withOutstation n (o.withPeriod period)).offerOutstation n .failed .unsupervised
  else s.withOutstation n (o.withPeriod period)

/-- The periods stored in the records from a number upward, one after another (R146). -/
def storePeriodsFrom (number : Nat) : List Half → State → State
  | [], s => s
  | p :: rest, s =>
    storePeriodsFrom (number + 1) rest
      (match boundedOf 128 number with
      | some n => s.storePeriod n p.toNat
      | none => s)

/-- SET OUTSTATION PERIODS (R146). -/
def setOutstationPeriodsAnswer (first : Byte) (periods : List Half) (s : State) : Answer :=
  if first.toNat < 128 ∧ first.toNat + periods.length ≤ 128 ∧ periods.all (fun p => p.toNat ≤ 3600) then
    { state := storePeriodsFrom first.toNat periods s }
  else s.refuse .range

/-- One outstation record as READ OUTSTATIONS returns it (Table 11-18). -/
def Outstation.bytes (o : Outstation) : List Byte :=
  halfBytes o.period ++ [o.state.code] ++ halfBytes o.countdown.seconds

/-- READ OUTSTATIONS (R147). -/
def readOutstationsAnswer (first count : Byte) (s : State) : Answer :=
  if first.toNat < 128 ∧ 1 ≤ count.toNat ∧ count.toNat ≤ 128 then
    let page := (s.supervision.outstations.rows.drop first.toNat).take count.toNat
    let link := s.supervision.link
    { state := s
      payload :=
        [byteOf link.mode.code, byteOf link.period, link.state.code, byteOf link.countdown.seconds,
          byteOf page.length] ++ page.flatMap Outstation.bytes }
  else s.refuse .range

end Sys2Proof.Machine
end

