-- ==== Sys2Proof/Machine/Points.lean ====
section
/-!
DEFINITION. The Point Store (chapter 1): definition and deletion, telemetry, force and release, inhibit and enable, and
the reading of a point.
-/

namespace Sys2Proof.Machine

/-! ### What the Point Store hands on (R7 to R9) -/

/-- The offer of an ADMIN entry with its action code (R9, Table 1-4). -/
def State.offerAdmin (s : State) (p : Nat) (k : Fin 16) (action : Byte) (value : Option Nat) : State :=
  s.offer
    { cls := .admin, source := .host, subject := .point p, old := action, new := valueByte value, sect := k }

/-- The offer of a CHANGE entry (R7). -/
def State.offerChange (s : State) (p : Nat) (k : Fin 16) (old new : Option Nat) : State :=
  s.offer
    { cls := .change, source := .host, subject := .point p, old := valueByte old, new := valueByte new, sect := k }

/-- A change of effective value handed on by the point's kind; `r` is the record after the change (R7). -/
def State.handOn (s : State) (p : Nat) (r : PointRecord) (old : Option Nat) : State :=
  match r.kind with
  | .alarm =>
    if r.inhibited then s
    else
      match r.effective with
      | none => s
      | some v => s.valueChange p r (v = 1)
  | .status => s.offerChange p r.sect old r.effective
  | .band => s.offerChange p r.sect old r.effective

/-- After a point's values have been written: if its effective value is no longer `old`, the last change time is set
(R3) and the change is handed on (R7). -/
def State.settle (s : State) (p : Nat) (old : Option Nat) : State :=
  match s.point? p with
  | none => s
  | some r =>
    if r.effective = old then s
    else
      let stamped := { r with lastChange := some s.cadence.time }
      (s.withPoint p stamped).handOn p stamped old

/-- The record a request names, or its refusal: RANGE above 2047, UNDEFINED for an undefined point (R11). -/
def State.withNamed (s : State) (point : Half) (f : Nat → PointRecord → Answer) : Answer :=
  if point.toNat < 2048 then
    match s.point? point.toNat with
    | none => s.refuse .undefined
    | some r => f point.toNat r
  else s.refuse .range

/-! ### Definition and deletion (R12 to R14) -/

/-- The lamp ownership map with lamps given to a point. -/
def claimLamps (owners : Sparse Nat) (p : Nat) (lamps : List (Fin 4096)) : Sparse Nat :=
  lamps.foldl (fun t n => t.put n.val p) owners

/-- The lamp ownership map with lamps returned to FREE. -/
def freeLamps (owners : Sparse Nat) (lamps : List (Fin 4096)) : Sparse Nat :=
  lamps.foldl (fun t n => t.erase n.val) owners

/-- DEFINE POINT: the checks of Table 1-5 in order, then R13. -/
def definePointAnswer (d : DefineArgs) (s : State) : Answer :=
  let p := d.point.toNat
  if 2048 ≤ p then s.refuse .range
  else if (s.point? p).isSome then s.refuse .exists
  else
    match recordOf d with
    | none => s.refuse .range
    | some r =>
      if r.lamps.any (fun n => (s.points.owners.get? n.val).isSome) then s.refuse .lampTaken
      else
        let c := s.catchUp
        { state :=
            ({ c with points :=
                { table := s.points.table.put p r
                  owners := claimLamps s.points.owners p r.lamps } }).offerAdmin p r.sect 1 none }

/-- DELETE POINT (R14). -/
def deletePointAnswer (point : Half) (s : State) : Answer :=
  s.withNamed point fun p r =>
    let c := s.catchUp
    let withdrawn := if r.kind = .alarm then c.withdrawEntry p else c
    { state :=
        ({ withdrawn with points :=
            { table := s.points.table.erase p
              owners := freeLamps s.points.owners r.lamps } }).offerAdmin p r.sect 2 none }

/-! ### Telemetry (R15, R16) -/

/-- Whether an update is applied: its point number is in range, its point defined, its value in range (R15). -/
def State.applies (s : State) (u : Update) : Option PointRecord :=
  if u.point.toNat < 2048 then
    match s.point? u.point.toNat with
    | none => none
    | some r => if r.accepts u.value.toNat then some r else none
  else none

/-- The three steps of an applied update (R15): live value, refresh, and what a change of effective value hands on. -/
def State.applyUpdate (s : State) (u : Update) (r : PointRecord) : State :=
  let p := u.point.toNat
  ((s.catchUp.withPoint p { r with live := some u.value.toNat }).refresh r.outstation).settle p r.effective

/-- The updates from a position on, taken in order (R15). -/
def updatesFrom (position : Nat) : List Update → Batch → Batch
  | [], b => b
  | u :: rest, b =>
    updatesFrom (position + 1) rest
      (match b.state.applies u with
      | some r => b.apply (b.state.applyUpdate u r)
      | none => b.skip position)

/-- UPDATE POINTS (R15, R16). -/
def updatePointsAnswer (updates : List Update) (s : State) : Answer :=
  let b := updatesFrom 0 updates ⟨s, 0, none⟩
  { state := b.state, payload := b.payload }

/-! ### Force and release (R17, R18) -/

/-- FORCE POINT (R17). -/
def forcePointAnswer (point : Half) (value : Byte) (s : State) : Answer :=
  s.withNamed point fun p r =>
    if r.accepts value.toNat then
      { state :=
          ((s.catchUp.withPoint p { r with forced := some value.toNat }).offerAdmin p r.sect 3
            (some value.toNat)).settle p r.effective }
    else s.refuse .range

/-- RELEASE POINT (R18). -/
def releasePointAnswer (point : Half) (s : State) : Answer :=
  s.withNamed point fun p r =>
    if r.forced.isSome then
      { state :=
          ((s.catchUp.withPoint p { r with forced := none }).offerAdmin p r.sect 4 r.live).settle p r.effective }
    else { state := s }

/-! ### Inhibit and enable (R19, R20) -/

/-- INHIBIT POINT (R19): an ALARM point is withdrawn with its alarm state set NORMAL (R31). -/
def inhibitPointAnswer (point : Half) (s : State) : Answer :=
  s.withNamed point fun p r =>
    if r.inhibited then { state := s }
    else
      let c := s.catchUp
      let moved :=
        if r.kind = .alarm then
          (c.withPoint p { r with inhibited := true, alarm := some .normal }).withdrawEntry p
        else c.withPoint p { r with inhibited := true }
      { state := moved.offerAdmin p r.sect 5 r.effective }

/-- ENABLE POINT (R20). -/
def enablePointAnswer (point : Half) (s : State) : Answer :=
  s.withNamed point fun p r =>
    if r.inhibited then
      let enabled := { r with inhibited := false }
      let moved := (s.catchUp.withPoint p enabled).offerAdmin p r.sect 6 r.effective
      { state := if r.kind = .alarm ∧ r.effective = some 1 then moved.enableArrival p enabled else moved }
    else { state := s }

/-! ### Reading a point (R21, Table 11-8) -/

/-- An optional value as a byte, 0 when absent. -/
def presentByte : Option Nat → Byte
  | none => 0
  | some v => byteOf v

/-- The flags byte of READ POINT. -/
def State.pointFlags (s : State) (p : Nat) (r : PointRecord) : Byte :=
  byteOf
    ((if r.ringBack then 1 else 0) + (if r.inhibited then 2 else 0) + (if r.live.isSome then 4 else 0) +
      (if r.forced.isSome then 8 else 0) + (if r.lastChange.isSome then 16 else 0) +
      (if s.alarm.inList p then 32 else 0) + (if lampFault s.proving r then 64 else 0))

/-- READ POINT (R21). -/
def readPointAnswer (point : Half) (s : State) : Answer :=
  s.withNamed point fun p r =>
    { state := s
      payload :=
        halfBytes p ++
          [byteOf r.kind.code, byteOf r.outstation.val, byteOf r.sect.val, byteOf r.priority.val, s.pointFlags p r,
            presentByte r.live, presentByte r.forced, valueByte r.effective, (r.alarm.getD .normal).code,
            byteOf (s.supervision.quality r).code] ++
          wordBytes (r.lastChange.getD 0) ++ [byteOf r.lamps.length] ++
          r.lamps.flatMap fun n => halfBytes n.val }

/-! ### Resets (R23, R24) -/

/-- A record after a software reset (R23). -/
def PointRecord.afterSoftwareReset (r : PointRecord) : PointRecord :=
  { r with live := none, forced := none, lastChange := none, alarm := r.alarm.map fun _ => .normal }

end Sys2Proof.Machine
end

