-- ==== Sys2Proof/Machine/Modes.lean ====
section
/-!
DEFINITION. The Mode Controller (sections 10.1 and 10.4): the device mode and READ STATUS.
-/

namespace Sys2Proof.Machine

/-- The offer of a MODE entry for a change of mode (R162, R163). -/
def State.offerMode (s : State) (old new : DeviceMode) : State :=
  s.offer { cls := .mode, source := .host, subject := .none, old := byteOf old.code, new := byteOf new.code }

/-- The state with the device mode replaced. -/
def State.withDevice (s : State) (d : DeviceMode) : State :=
  { s with mode := { s.mode with device := d } }

/-- SET MODE ONLINE: the mode, both loops (A before B), HORN, the MODE entry (R162). -/
def setModeOnlineAnswer (s : State) : Answer :=
  match s.mode.device with
  | .online => { state := s }
  | .offline =>
    { state := ((((s.withDevice .online).loopOnline .a).loopOnline .b).deriveHorn).offerMode .offline .online }

/-- SET MODE OFFLINE: the mode and HORN, both loops, the host timer and the desk hold, the MODE entry, and the OPERATOR
entry when the lamp test was active (R163). -/
def setModeOfflineAnswer (s : State) : Answer :=
  match s.mode.device with
  | .offline => { state := s }
  | .online =>
    let stopped := (((s.withDevice .offline).deriveHorn).loopOffline .a).loopOffline .b
    let quiet := { stopped with mode := { stopped.mode with hostTimer := .stopped 0, deskHold := false } }
    let told := quiet.offerMode .online .offline
    { state := if s.mode.lampTestActive then told.offerLampTest .host false else told }

/-- READ STATUS (R171, Table 11-14). -/
def readStatusAnswer (s : State) : Answer :=
  { state := s
    payload :=
      [byteOf Config.vendorCode] ++ halfBytes Config.partCode ++
        [byteOf Config.revisionCode, byteOf s.mode.device.code, byteOf s.mode.test.kind.code,
          byteOf s.mode.test.state.code, byteOf s.loopA.state.code, flagByte s.loopA.repeated,
          byteOf s.loopB.state.code, flagByte s.loopB.repeated, byteOf s.supervision.link.mode.code,
          s.supervision.link.state.code] ++
        halfBytes s.points.table.cells.length ++ halfBytes s.alarm.list.length ++ halfBytes s.journal.ring.length ++
        [byteOf s.alarm.horn.code, flagByte s.mode.lampTestActive] }

end Sys2Proof.Machine
end

