-- ==== Sys2Proof/Machine/Service.lean ====
section
/-!
DEFINITION. What falls due at once, the request queue, the request gate and the forming of a reply (sections 11.3 to
11.5).
-/

namespace Sys2Proof.Machine

/-! ### What is due at once (log entry 4) -/

/-- Whether the receiver's gap expiry is due (R177). -/
def State.gapDue (s : State) : Bool :=
  s.link.gap = .expired

/-- GAP_TIMER_EXPIRY, when it is due: the frame is abandoned, the buffer cleared, the receiver in HUNT (R177). -/
def State.expireGap (s : State) : State :=
  if s.gapDue then
    { s with link := { s.link with receiver := .hunt, buffer := [], gap := .stopped 0 } }
  else s

/-- The expiries of the countdowns of the outstations, in ascending order, each when it is due. -/
def State.expireOutstations (s : State) : State :=
  (List.finRange 128).foldl (fun t n => t.expireOutstation n) s

/-- A generator's expiry and toggle, each when it is due. -/
def State.settleGenerator (s : State) (g : Generator) : State :=
  (s.expirePrescale g).togglePhase g

/-- A frame start when it is due, and the pass start it may bring (R83, R84). -/
def State.frameNow (s : State) (l : Loop) : State :=
  (s.startFrame l).startPass

/-- What an event that has been taken brings about at once, each when it is due: the start of the pass that R84 has
fixed, the toggle at a cadence tick (R72), a frame start (R104, R109, R168) and the pass it may bring. It comes before
every command that is not such an event itself (log entry 4). -/
def State.followUps (s : State) : State :=
  let toggled := ((s.startPass.togglePhase .fast).togglePhase .slow).togglePhase .wink
  (toggled.frameNow .a).frameNow .b

/-- A frame timer's expiry when it is due, and what it brings about at once (R104). -/
def State.timerNow (s : State) (l : Loop) : State :=
  (s.expireFrameTimer l).frameNow l

/-- What has come to be due and no command has taken yet: what follows at once, then what the manual has happen "at that
tick", in one fixed order, each with what it brings about at once: the cadence expiries (R71, R72), the frame timers
(R104). Each does nothing when it is not due. Every command that is not an event of its own at a tick comes after it
(log entries 4 and 24). -/
def State.atOnce (s : State) : State :=
  let cadence := ((s.followUps.settleGenerator .fast).settleGenerator .slow).settleGenerator .wink
  (cadence.timerNow .a).timerNow .b

/-- The taking of an event that falls due at a tick: it comes after what an event taken before it brings about at once,
and before or after the other events of the tick as the commands have it. -/
def State.takesAfterFollowUps (s : State) (f : State → State) : Host.Outcome State Fault Refusal :=
  s.takes fun s => f s.followUps

/-- The taking of an event that follows another at once: a pass start that is due comes before it (R84). -/
def State.takesAfterPassStart (s : State) (f : State → State) : Host.Outcome State Fault Refusal :=
  s.takes fun s => f s.startPass

/-- The taking of a command that comes after what is due at once. -/
def State.takesAfterDue (s : State) (f : State → State) : Host.Outcome State Fault Refusal :=
  s.takes fun s => f s.atOnce

/-! ### The request queue (R178) -/

/-- An offer to the request queue: at the tail, or dropped with QUEUE_LOST set when the queue holds 4 (R178). -/
def LinkInterface.offerItem (l : LinkInterface) (item : QueueItem) : LinkInterface :=
  if l.queue.length < Config.queueCapacity then { l with queue := l.queue ++ [item] }
  else { l with queueLost := true }

/-! ### The request gate (R179) -/

/-- A request at the gate: its kind byte, whether it passes during a test, whether its payload has an allowed length
(Table 11-3), and its owning block. -/
structure Request where
  kind       : Byte
  duringTest : Bool
  sized      : Bool
  owner      : State → Answer

/-- The gate's checks 2 and 3 and, for a request that passes, the owning block (R179). -/
def State.gate (s : State) (r : Request) : Answer :=
  if s.mode.testOn ∧ r.duringTest = false then s.refuse .busy
  else if r.sized then r.owner s
  else s.refuse .format

/-! ### Replies (R180) -/

/-- A reply formed and its transmission begun: the flags are taken now, and QUEUE_LOST is cleared (R180). -/
def State.sendReply (s : State) (kind : Byte) (status : Status) (payload : List Byte) (ofReset : Bool) : State :=
  { s with link :=
    { s.link with
      queueLost := false
      reply :=
        some
          (Reply.ofFrame (frameOf (kind :: status.code :: replyFlags s.link.queueLost s.journal.attn :: payload))
            ofReset) } }

/-- The kind byte of RESET (Table 11-3). -/
def resetKind : Byte := 0x03

/-- The reply to a request: the kind plus 0x80 modulo 256, and the answer's payload when the status is OK (R180). -/
def Answer.reply (a : Answer) (kind : Byte) : State :=
  a.state.sendReply (kind + 0x80) a.status (if a.status = .ok then a.payload else [])
    (kind = resetKind ∧ a.status = .ok)

/-- The service of a request: gate, owning block, reply (R179, R180). -/
def State.serve (s : State) (r : Request) : State :=
  (s.gate r).reply r.kind

/-- Whether the OK reply to RESET is in transmission (R174). -/
def State.resetReplying (s : State) : Bool :=
  match s.link.reply with
  | some r => r.ofReset
  | none => false

/-- Whether a request that arrives is the head item of a service that begins at once: the transmitter is free and no item
came before it (R178, R179). -/
def State.linkIdle (s : State) : Bool :=
  s.txdIdle && s.link.queue.isEmpty

/-- A request that cannot be served at once waits at the tail of the queue, or is lost when the queue is full (R178). -/
def State.await (s : State) (c : Instr) : State :=
  match requestBody c with
  | none => s
  | some body => { s with link := s.link.offerItem (.request body) }

/-- A request `c` as a command, `r` at the gate (log entry 7). With the transmitter free and the queue empty it is served;
no service begins before the transmission of a reply has ended, nor before the items that came first are served, so
otherwise it waits in the queue (R178, R179; log entry 9). -/
def State.request (s : State) (c : Instr) (r : Request) : Host.Outcome State Fault Refusal :=
  s.takesAfterDue fun s => if s.linkIdle then s.serve r else s.await c

end Sys2Proof.Machine
end

