-- ==== Sys2Proof/Machine/Requests.lean ====
section
/-!
DEFINITION. The requests of Table 11-3, and the meaning of each request as a command: its service through the gate.
-/

namespace Sys2Proof.Machine

/-! ### The requests at the gate: kind, payload length, owner (Table 11-3) -/

/-- READ STATUS. -/
def readStatusRequest : Request := ⟨0x01, true, true, readStatusAnswer⟩

/-- SET MODE with mode code 1. -/
def setModeOnlineRequest : Request := ⟨0x02, false, true, setModeOnlineAnswer⟩

/-- SET MODE with mode code 0. -/
def setModeOfflineRequest : Request := ⟨0x02, false, true, setModeOfflineAnswer⟩

/-- SET MODE with a mode code above 1 (R162). -/
def setModeOtherRequest : Request := ⟨0x02, false, true, fun s => s.refuse .range⟩

/-- RESET: nothing changes before its reply's transmission ends (R174). -/
def resetRequest : Request := ⟨resetKind, true, true, fun s => { state := s }⟩

/-- RUN TEST. -/
def runTestRequest (kind : Byte) : Request := ⟨0x04, false, true, runTestAnswer kind⟩

/-- ABORT TEST. -/
def abortTestRequest : Request := ⟨0x05, true, true, abortTestAnswer⟩

/-- READ TEST RESULTS. -/
def readTestResultsRequest : Request := ⟨0x06, true, true, readTestResultsAnswer⟩

/-- DEFINE POINT: the lamp count is 1-8 and agrees with the payload's length (Table 11-3 note 1). -/
def definePointRequest (d : DefineArgs) : Request :=
  ⟨0x10, false, 1 ≤ d.lampCount.toNat ∧ d.lampCount.toNat ≤ 8 ∧ d.lamps.length = d.lampCount.toNat,
    definePointAnswer d⟩

/-- DELETE POINT. -/
def deletePointRequest (point : Half) : Request := ⟨0x11, false, true, deletePointAnswer point⟩

/-- READ POINT. -/
def readPointRequest (point : Half) : Request := ⟨0x12, false, true, readPointAnswer point⟩

/-- UPDATE POINTS: 1-32 updates. -/
def updatePointsRequest (updates : List Update) : Request :=
  ⟨0x13, false, 1 ≤ updates.length ∧ updates.length ≤ 32, updatePointsAnswer updates⟩

/-- FORCE POINT. -/
def forcePointRequest (point : Half) (value : Byte) : Request := ⟨0x14, false, true, forcePointAnswer point value⟩

/-- RELEASE POINT. -/
def releasePointRequest (point : Half) : Request := ⟨0x15, false, true, releasePointAnswer point⟩

/-- INHIBIT POINT. -/
def inhibitPointRequest (point : Half) : Request := ⟨0x16, false, true, inhibitPointAnswer point⟩

/-- ENABLE POINT. -/
def enablePointRequest (point : Half) : Request := ⟨0x17, false, true, enablePointAnswer point⟩

/-- ACKNOWLEDGE. -/
def acknowledgeRequest (scope : Byte) (argument : Half) : Request :=
  ⟨0x20, false, true, acknowledgeAnswer scope argument⟩

/-- SILENCE. -/
def silenceRequest : Request := ⟨0x21, false, true, silenceAnswer⟩

/-- READ ANNUNCIATION. -/
def readAnnunciationRequest (start : Half) (count : Byte) : Request :=
  ⟨0x22, false, true, readAnnunciationAnswer start count⟩

/-- SET HORN THRESHOLD. -/
def setHornThresholdRequest (value : Byte) : Request := ⟨0x23, false, true, setHornThresholdAnswer value⟩

/-- SET DESK CONTROL. -/
def setDeskControlRequest (enable period : Byte) : Request := ⟨0x24, false, true, setDeskControlAnswer enable period⟩

/-- CONFIGURE TILE. -/
def configureTileRequest (loop slot size enable : Byte) : Request :=
  ⟨0x30, false, true, configureTileAnswer loop slot size enable⟩

/-- SET LOOP TIMING. -/
def setLoopTimingRequest (loop : Byte) (period : Half) : Request := ⟨0x31, false, true, setLoopTimingAnswer loop period⟩

/-- SET INTENSITY. -/
def setIntensityRequest (value : Byte) : Request := ⟨0x32, false, true, setIntensityAnswer value⟩

/-- LAMP TEST. -/
def lampTestRequest (duration : Byte) : Request := ⟨0x33, false, true, lampTestAnswer duration⟩

/-- READ LOOP STATUS. -/
def readLoopStatusRequest (loop : Byte) : Request := ⟨0x34, false, true, readLoopStatusAnswer loop⟩

/-- READ LAMP FAULTS. -/
def readLampFaultsRequest (start : Half) : Request := ⟨0x35, false, true, readLampFaultsAnswer start⟩

/-- SET CADENCE. -/
def setCadenceRequest (generator : Byte) (prescale : Half) (lit dark run : Byte) : Request :=
  ⟨0x38, false, true, setCadenceAnswer generator prescale lit dark run⟩

/-- SET TIME. -/
def setTimeRequest (time : Word) : Request := ⟨0x39, false, true, setTimeAnswer time⟩

/-- SET SUPERVISION. -/
def setSupervisionRequest (mode period : Byte) : Request := ⟨0x40, false, true, setSupervisionAnswer mode period⟩

/-- SET OUTSTATION PERIODS: 1-128 periods. -/
def setOutstationPeriodsRequest (first : Byte) (periods : List Half) : Request :=
  ⟨0x41, false, 1 ≤ periods.length ∧ periods.length ≤ 128, setOutstationPeriodsAnswer first periods⟩

/-- SITE HEARTBEAT: 1-32 outstation numbers. -/
def siteHeartbeatRequest (outstations : List Byte) : Request :=
  ⟨0x42, false, 1 ≤ outstations.length ∧ outstations.length ≤ 32, siteHeartbeatAnswer outstations⟩

/-- READ OUTSTATIONS. -/
def readOutstationsRequest (first count : Byte) : Request := ⟨0x43, false, true, readOutstationsAnswer first count⟩

/-- READ JOURNAL, which passes during a test (R158). -/
def readJournalRequest (count : Byte) : Request := ⟨0x50, true, true, readJournalAnswer count⟩

/-- SET JOURNAL SELECTION: 16 values. -/
def setJournalSelectionRequest (values : List Byte) : Request :=
  ⟨0x51, false, values.length = 16, setJournalSelectionAnswer values⟩

/-! ### The meanings of the request commands -/

/-- READ_STATUS (R171). -/
def execReadStatus (s : State) := s.request .readStatus readStatusRequest

/-- SET_MODE_ONLINE (R162). -/
def execSetModeOnline (s : State) := s.request .setModeOnline setModeOnlineRequest

/-- SET_MODE_OFFLINE (R163). -/
def execSetModeOffline (s : State) := s.request .setModeOffline setModeOfflineRequest

/-- RESET (R174). -/
def execReset (s : State) := s.request .reset resetRequest

/-- RUN_TEST (R166). -/
def execRunTest (kind : Byte) (s : State) := s.request (.runTest kind) (runTestRequest kind)

/-- ABORT_TEST (R170). -/
def execAbortTest (s : State) := s.request .abortTest abortTestRequest

/-- READ_TEST_RESULTS (R172). -/
def execReadTestResults (s : State) := s.request .readTestResults readTestResultsRequest

/-- DEFINE_POINT (R12, R13). -/
def execDefinePoint (args : DefineArgs) (s : State) := s.request (.definePoint args) (definePointRequest args)

/-- DELETE_POINT (R14). -/
def execDeletePoint (point : Half) (s : State) := s.request (.deletePoint point) (deletePointRequest point)

/-- READ_POINT (R21). -/
def execReadPoint (point : Half) (s : State) := s.request (.readPoint point) (readPointRequest point)

/-- UPDATE_POINTS (R15, R16). -/
def execUpdatePoints (updates : List Update) (s : State) :=
  s.request (.updatePoints updates) (updatePointsRequest updates)

/-- FORCE_POINT (R17). -/
def execForcePoint (point : Half) (value : Byte) (s : State) :=
  s.request (.forcePoint point value) (forcePointRequest point value)

/-- RELEASE_POINT (R18). -/
def execReleasePoint (point : Half) (s : State) := s.request (.releasePoint point) (releasePointRequest point)

/-- INHIBIT_POINT (R19). -/
def execInhibitPoint (point : Half) (s : State) := s.request (.inhibitPoint point) (inhibitPointRequest point)

/-- ENABLE_POINT (R20). -/
def execEnablePoint (point : Half) (s : State) := s.request (.enablePoint point) (enablePointRequest point)

/-- ACKNOWLEDGE (R39). -/
def execAcknowledge (scope : Byte) (argument : Half) (s : State) :=
  s.request (.acknowledge scope argument) (acknowledgeRequest scope argument)

/-- SILENCE (R45). -/
def execSilence (s : State) := s.request .silence silenceRequest

/-- READ_ANNUNCIATION (R46). -/
def execReadAnnunciation (start : Half) (count : Byte) (s : State) :=
  s.request (.readAnnunciation start count) (readAnnunciationRequest start count)

/-- SET_HORN_THRESHOLD (R37). -/
def execSetHornThreshold (value : Byte) (s : State) :=
  s.request (.setHornThreshold value) (setHornThresholdRequest value)

/-- SET_DESK_CONTROL (R61). -/
def execSetDeskControl (enable period : Byte) (s : State) :=
  s.request (.setDeskControl enable period) (setDeskControlRequest enable period)

/-- SET_CADENCE (R74 to R77). -/
def execSetCadence (generator : Byte) (prescale : Half) (lit dark run : Byte) (s : State) :=
  s.request (.setCadence generator prescale lit dark run) (setCadenceRequest generator prescale lit dark run)

/-- SET_TIME (R69). -/
def execSetTime (time : Word) (s : State) := s.request (.setTime time) (setTimeRequest time)

/-- CONFIGURE_TILE (R118). -/
def execConfigureTile (loop slot size enable : Byte) (s : State) :=
  s.request (.configureTile loop slot size enable) (configureTileRequest loop slot size enable)

/-- SET_LOOP_TIMING (R105). -/
def execSetLoopTiming (loop : Byte) (period : Half) (s : State) :=
  s.request (.setLoopTiming loop period) (setLoopTimingRequest loop period)

/-- SET_INTENSITY (R119). -/
def execSetIntensity (value : Byte) (s : State) := s.request (.setIntensity value) (setIntensityRequest value)

/-- READ_LOOP_STATUS (R120). -/
def execReadLoopStatus (loop : Byte) (s : State) := s.request (.readLoopStatus loop) (readLoopStatusRequest loop)

/-- LAMP_TEST (R165). -/
def execLampTest (duration : Byte) (s : State) := s.request (.lampTest duration) (lampTestRequest duration)

/-- READ_LAMP_FAULTS (R135). -/
def execReadLampFaults (start : Half) (s : State) := s.request (.readLampFaults start) (readLampFaultsRequest start)

/-- SET_SUPERVISION (R141, R142). -/
def execSetSupervision (mode period : Byte) (s : State) :=
  s.request (.setSupervision mode period) (setSupervisionRequest mode period)

/-- SET_OUTSTATION_PERIODS (R146). -/
def execSetOutstationPeriods (first : Byte) (periods : List Half) (s : State) :=
  s.request (.setOutstationPeriods first periods) (setOutstationPeriodsRequest first periods)

/-- SITE_HEARTBEAT (R145). -/
def execSiteHeartbeat (outstations : List Byte) (s : State) :=
  s.request (.siteHeartbeat outstations) (siteHeartbeatRequest outstations)

/-- READ_OUTSTATIONS (R147). -/
def execReadOutstations (first count : Byte) (s : State) :=
  s.request (.readOutstations first count) (readOutstationsRequest first count)

/-- READ_JOURNAL (R158). -/
def execReadJournal (count : Byte) (s : State) := s.request (.readJournal count) (readJournalRequest count)

/-- SET_JOURNAL_SELECTION (R154). -/
def execSetJournalSelection (values : List Byte) (s : State) :=
  s.request (.setJournalSelection values) (setJournalSelectionRequest values)

end Sys2Proof.Machine
end

