-- ==== Sys2Proof/Machine/Link.lean ====
section
/-!
DEFINITION. The Link Interface (chapter 11): the request a body carries, the beginning of a service, the receiver.
-/

namespace Sys2Proof.Machine

/-! ### The request a body carries (Table 11-3) -/

/-- A request of a known kind whose payload has no allowed length: the gate answers BUSY or FORMAT (R179). -/
def misSizedRequest (kind : Byte) (duringTest : Bool) : Request :=
  ⟨kind, duringTest, false, fun s => s.refuse .format⟩

/-- A payload of no bytes. -/
def payload0 (r : Request) : List Byte → Option Request
  | [] => some r
  | _ :: _ => none

/-- A payload of one byte. -/
def payload1 (f : Byte → Request) : List Byte → Option Request
  | [a] => some (f a)
  | _ => none

/-- A payload of two bytes. -/
def payload2 (f : Byte → Byte → Request) : List Byte → Option Request
  | [a, b] => some (f a b)
  | _ => none

/-- A payload of three bytes. -/
def payload3 (f : Byte → Byte → Byte → Request) : List Byte → Option Request
  | [a, b, c] => some (f a b c)
  | _ => none

/-- A payload of four bytes. -/
def payload4 (f : Byte → Byte → Byte → Byte → Request) : List Byte → Option Request
  | [a, b, c, d] => some (f a b c d)
  | _ => none

/-- A payload of six bytes. -/
def payload6 (f : Byte → Byte → Byte → Byte → Byte → Byte → Request) : List Byte → Option Request
  | [a, b, c, d, e, g] => some (f a b c d e g)
  | _ => none

/-- The SET MODE request with a mode code (R162, R163). -/
def setModeRequest (code : Byte) : Request :=
  if code = 0 then setModeOfflineRequest else if code = 1 then setModeOnlineRequest else setModeOtherRequest

/-- A SET OUTSTATION PERIODS payload: a number, then whole periods (R146). -/
def setOutstationPeriodsOf : List Byte → Option Request
  | [] => none
  | first :: rest => (halvesOf rest).map (setOutstationPeriodsRequest first)

/-- Whether a kind passes the gate during a test (Table 11-3). -/
def passesDuringTest (kind : Byte) : Bool :=
  kind = 0x01 ∨ kind = 0x03 ∨ kind = 0x05 ∨ kind = 0x06 ∨ kind = 0x50

/-- The reader of the payload of a kind, absent for a kind that is not in Table 11-3. Each field takes the bytes its
rule gives, most significant first (Table 11-3, note 3). -/
def readerOf (kind : Byte) : Option (List Byte → Option Request) :=
  match kind.toNat with
  | 0x01 => some (payload0 readStatusRequest)
  | 0x02 => some (payload1 setModeRequest)
  | 0x03 => some (payload0 resetRequest)
  | 0x04 => some (payload1 runTestRequest)
  | 0x05 => some (payload0 abortTestRequest)
  | 0x06 => some (payload0 readTestResultsRequest)
  | 0x10 => some fun p => (defineArgsOf p).map definePointRequest
  | 0x11 => some (payload2 fun a b => deletePointRequest (halfOf a b))
  | 0x12 => some (payload2 fun a b => readPointRequest (halfOf a b))
  | 0x13 => some fun p => (updatesOf p).map updatePointsRequest
  | 0x14 => some (payload3 fun a b v => forcePointRequest (halfOf a b) v)
  | 0x15 => some (payload2 fun a b => releasePointRequest (halfOf a b))
  | 0x16 => some (payload2 fun a b => inhibitPointRequest (halfOf a b))
  | 0x17 => some (payload2 fun a b => enablePointRequest (halfOf a b))
  | 0x20 => some (payload3 fun scope a b => acknowledgeRequest scope (halfOf a b))
  | 0x21 => some (payload0 silenceRequest)
  | 0x22 => some (payload3 fun a b count => readAnnunciationRequest (halfOf a b) count)
  | 0x23 => some (payload1 setHornThresholdRequest)
  | 0x24 => some (payload2 setDeskControlRequest)
  | 0x30 => some (payload4 configureTileRequest)
  | 0x31 => some (payload3 fun loop a b => setLoopTimingRequest loop (halfOf a b))
  | 0x32 => some (payload1 setIntensityRequest)
  | 0x33 => some (payload1 lampTestRequest)
  | 0x34 => some (payload1 readLoopStatusRequest)
  | 0x35 => some (payload2 fun a b => readLampFaultsRequest (halfOf a b))
  | 0x38 => some (payload6 fun g a b lit dark run => setCadenceRequest g (halfOf a b) lit dark run)
  | 0x39 => some (payload4 fun a b c d => setTimeRequest (wordOf a b c d))
  | 0x40 => some (payload2 setSupervisionRequest)
  | 0x41 => some setOutstationPeriodsOf
  | 0x42 => some fun p => some (siteHeartbeatRequest p)
  | 0x43 => some (payload2 readOutstationsRequest)
  | 0x50 => some (payload1 readJournalRequest)
  | 0x51 => some fun p => some (setJournalSelectionRequest p)
  | _ => none

/-- The request of a kind and a payload, absent for an unknown kind (R179). -/
def requestOf (kind : Byte) (payload : List Byte) : Option Request :=
  (readerOf kind).map fun reader => (reader payload).getD (misSizedRequest kind (passesDuringTest kind))

/-! ### Service (R179) -/

/-- The service of a body: an unknown kind is answered UNKNOWN, any other is served as its request (R179, R180). -/
def State.serveBody (s : State) : List Byte → State
  | [] => s
  | kind :: payload =>
    match requestOf kind payload with
    | none => (s.refuse .unknown).reply kind
    | some r => s.serve r

/-- The service of an item. A reject is answered at once with kind 0xFF (R179). -/
def State.serveItem (s : State) : QueueItem → State
  | .request body => s.serveBody body
  | .rejectCheck => s.sendReply 0xFF .check [] false
  | .rejectLength => s.sendReply 0xFF .length [] false

/-- Whether a service is due: the queue holds an item and the reply transmitter is free (R179). -/
def State.serviceDue (s : State) : Bool :=
  s.txdIdle && !s.link.queue.isEmpty

/-- SERVICE_BEGIN, when it is due: the head item is taken and served (R178, R179). -/
def State.beginService (s : State) : State :=
  if s.txdIdle then
    match s.link.queue with
    | [] => s
    | item :: rest => ({ s with link := { s.link with queue := rest } }).serveItem item
  else s

/-! ### The receiver (R177, Table 11-2) -/

/-- The ticks the gap timer counts (R177). -/
def gapTicks : Nat := 100

/-- The length field at the front of the receive buffer (R176). -/
def lengthField : List Byte → Nat
  | hi :: lo :: _ => hi.toNat * 256 + lo.toNat
  | _ => 0

/-- The receiver back in HUNT, its gap timer stopped. The buffer is not read in HUNT (log entry 17). -/
def LinkInterface.hunting (l : LinkInterface) : LinkInterface :=
  { l with receiver := .hunt, gap := .stopped 0 }

/-- A character stored in the buffer, the gap timer loaded, the receiver in the given state. -/
def LinkInterface.store (l : LinkInterface) (b : Byte) (next : ReceiverState) : LinkInterface :=
  { l with receiver := next, buffer := l.buffer ++ [b], gap := .counting gapTicks }

/-- A character in LENGTH (Table 11-2). -/
def LinkInterface.takeLength (l : LinkInterface) (b : Byte) : LinkInterface :=
  match l.buffer with
  | [] => l.store b .length
  | hi :: _ =>
    let n := hi.toNat * 256 + b.toNat
    if 1 ≤ n ∧ n ≤ 1024 then l.store b .body else l.hunting.offerItem .rejectLength

/-- A character in BODY (Table 11-2). -/
def LinkInterface.takeBody (l : LinkInterface) (b : Byte) : LinkInterface :=
  l.store b (if lengthField l.buffer + 2 ≤ l.buffer.length + 1 then .check else .body)

/-- The second check byte: the frame is judged. The good frame goes to the Supervision Unit before the body is offered
to the queue (R177). -/
def State.judgeFrame (s : State) (last : Byte) : State :=
  let counted := s.link.buffer.take (lengthField s.link.buffer + 2)
  let check := (s.link.buffer.drop (lengthField s.link.buffer + 2)) ++ [last]
  if halfBytes (crc16 counted).toNat = check then
    let good := s.goodFrame
    { good with link := good.link.hunting.offerItem (.request (counted.drop 2)) }
  else { s with link := s.link.hunting.offerItem .rejectCheck }

/-- CHARACTER_RECEIVED (Table 11-2). -/
def State.receive (c : RxChar) (s : State) : State :=
  match s.link.receiver with
  | .hunt =>
    if c.stopOk ∧ c.byte = 0xA5 then
      { s with link := { s.link with receiver := .length, buffer := [], gap := .counting gapTicks } }
    else s
  | .length =>
    { s with link := if c.stopOk then s.link.takeLength c.byte else s.link.hunting }
  | .body =>
    { s with link := if c.stopOk then s.link.takeBody c.byte else s.link.hunting }
  | .check =>
    if c.stopOk then
      if s.link.buffer.length ≤ lengthField s.link.buffer + 2 then
        { s with link := s.link.store c.byte .check }
      else s.judgeFrame c.byte
    else { s with link := s.link.hunting }

end Sys2Proof.Machine
end

