-- ==== Sys2Proof/Machine/Resets.lean ====
section
/-!
DEFINITION. The resets (section 10.5): what each block takes at a software reset, at the assertion of RESET and at its
negation.
-/

namespace Sys2Proof.Machine

/-! ### Software reset (R174) -/

/-- The Supervision Unit after a software reset: modes and periods kept, every state HEALTHY but for the outstations
of period 0 (R150). -/
def SupervisionUnit.afterSoftwareReset (u : SupervisionUnit) : SupervisionUnit where
  link := ({ u.link with state := .healthy } : LinkRecord).loaded
  outstations := u.outstations.map fun o => ({ o with state := .unsupervised } : Outstation).withPeriod o.period

/-- The Cadence Unit after a software reset: the time counter runs on, each generator is loaded (R79). -/
def CadenceUnit.afterSoftwareReset (c : CadenceUnit) : CadenceUnit :=
  { c with
    fast := c.fast.afterSoftwareReset
    slow := c.slow.afterSoftwareReset
    wink := c.wink.afterSoftwareReset }

/-- A loop after a software reset: period and tile configuration kept (R122, R123). -/
def LoopController.afterSoftwareReset (c : LoopController) (intensity : Fin 16) : LoopController :=
  LoopController.initial c.period intensity (c.tiles.map Tile.stopped)

/-- The journal after a software reset: emptied, the selections kept, the reset entry appended (R160). -/
def JournalUnit.afterSoftwareReset (j : JournalUnit) (time : Word) : JournalUnit :=
  ({ j.emptied with nextSeq := 0 }).append time
    { cls := .mode, source := .reset, subject := .none, old := 0xFF, new := 0x81 }

/-- The part after a software reset, block by block (R174). -/
def State.softwareReset (s : State) : State where
  pending := s.pending
  inReset := s.inReset
  straps := s.straps
  link := LinkInterface.initial
  points := { s.points with table := s.points.table.map PointRecord.afterSoftwareReset }
  alarm := ⟨[], s.alarm.threshold, .quiet, false⟩
  desk := DeskUnit.initial s.desk.enabled s.desk.period s.desk.pins
  cadence := s.cadence.afterSoftwareReset
  composer := Composer.initial
  loopA := s.loopA.afterSoftwareReset s.intensity
  loopB := s.loopB.afterSoftwareReset s.intensity
  intensity := s.intensity
  proving := Sparse.empty
  supervision := s.supervision.afterSoftwareReset
  journal := s.journal.afterSoftwareReset s.cadence.time
  mode := ModeController.initial
  freeIndex := s.freeIndex

/-- SOFTWARE_RESET: the transmission of the OK reply to RESET ends, if it is in transmission (R174). -/
def State.endResetReply (s : State) : State :=
  if s.resetReplying then s.softwareReset else s

/-! ### Hardware reset (R173) -/

/-- HARDWARE_RESET_ASSERT: the journal is emptied, HORN negated, the transmit lines idle; the part takes no event until
the negation (R173; log entry 18). -/
def State.assertReset (s : State) : State :=
  { s with
    inReset := true
    link := { s.link with reply := none }
    loopA := { s.loopA with line := [] }
    loopB := { s.loopB with line := [] }
    journal := s.journal.emptied
    alarm := { s.alarm with horn := .quiet, hornPin := false } }

/-- The test record of the power-up memory test: what its start clears is clear already (R161, R167, R173). -/
def TestRecord.powerUpTest : TestRecord :=
  { TestRecord.started .memory with powerUp := true }

/-- HARDWARE_RESET_NEGATION: the straps are sampled and every block takes its hardware-reset values; with TEST_AT_START
HIGH the power-up memory test starts and no reset entry is made (R160, R161, R173). -/
def State.negateReset (straps : Straps) (s : State) : State :=
  let taken :=
    { State.reset with
      pending := s.pending
      straps := straps
      desk := DeskUnit.initial true 4 s.desk.pins
      supervision := SupervisionUnit.initial straps.supvAuto
      freeIndex := s.freeIndex }
  if straps.testAtStart then
    { taken with
      journal := JournalUnit.initial
      mode := { ModeController.initial with test := TestRecord.powerUpTest } }
  else taken

end Sys2Proof.Machine
end

