-- ==== Sys2Proof/Machine/Events.lean ====
section
/-!
DEFINITION. The meaning of each event of the table that is not a request: the tick, the expiries, the frames, the
passes, the link's events and the resets.
-/

namespace Sys2Proof.Machine

/-! ### The tick (R67) -/

/-- The Cadence Unit at a tick: the time counter raised by one, every RUNNING generator stepped (R68, R71). -/
def CadenceUnit.tick (c : CadenceUnit) : CadenceUnit where
  time := c.time + 1
  fast := c.fast.tick
  slow := c.slow.tick
  wink := c.wink.tick

/-- The Supervision Unit at a tick: every counting countdown lowered (R139, R144). -/
def SupervisionUnit.tick (u : SupervisionUnit) : SupervisionUnit where
  link := { u.link with countdown := u.link.countdown.tick }
  outstations := u.outstations.map fun o => { o with countdown := o.countdown.tick }

/-- One tick handed to everything that counts ticks: the Cadence Unit, the sample timer, the frame timers, the
supervision countdowns, the host timer and the gap timer (R67), and the reply in transmission (R175). -/
def State.countTick (s : State) : State :=
  { s with
    cadence := s.cadence.tick
    desk := { s.desk with timer := s.desk.timer.tick }
    loopA := { s.loopA with timer := s.loopA.timer.tick }
    loopB := { s.loopB with timer := s.loopB.timer.tick }
    supervision := s.supervision.tick
    mode := { s.mode with hostTimer := s.mode.hostTimer.tick }
    link :=
      { s.link with
        gap := s.link.gap.tickGap
        reply := s.link.reply.bind (Reply.tick (bitRate s.straps)) } }

/-- What the manual lets other events come before or after ("in either order": R56, R139, R144, R165, R177, R178) stays
due until its own command takes it, and at the latest until the next tick, which finds it taken in this order: the link,
the outstations, the gap timer, the host timer, the desk sample (of the levels standing at the pins), a service (log
entries 4 and 24). -/
def State.beforeTick (s : State) : State :=
  let counted := s.expireLink.expireOutstations.expireGap.expireHostTimer
  (counted.sampleDesk counted.desk.pins).beginService.followUps

/-- TICK: what still is due is taken, and the tick is counted (R67). -/
def execTick (s : State) := s.takesAfterDue fun s => s.beforeTick.countTick

/-! ### What falls due at a tick -/

/-- PRESCALE_EXPIRY (R71). -/
def execPrescaleExpiry (generator : Generator) (s : State) := s.takesAfterFollowUps (State.expirePrescale generator)

/-- PHASE_TOGGLE (R72). -/
def execPhaseToggle (generator : Generator) (s : State) := s.takesAfterPassStart (State.togglePhase generator)

/-- DESK_SAMPLE (R52). -/
def execDeskSample (pins : DeskPins) (s : State) := s.takesAfterFollowUps (State.sampleDesk pins)

/-- HOST_TIMER_EXPIRY (R164). -/
def execHostTimerExpiry (s : State) := s.takesAfterFollowUps State.expireHostTimer

/-- LINK_COUNTDOWN_EXPIRY (R139). -/
def execLinkCountdownExpiry (s : State) := s.takesAfterFollowUps State.expireLink

/-- OUTSTATION_COUNTDOWN_EXPIRY (R144). -/
def execOutstationCountdownExpiry (outstation : Fin 128) (s : State) :=
  s.takesAfterFollowUps (State.expireOutstation outstation)

/-- GAP_TIMER_EXPIRY (R177). -/
def execGapTimerExpiry (s : State) := s.takesAfterFollowUps State.expireGap

/-- FRAME_TIMER_EXPIRY (R104). -/
def execFrameTimerExpiry (loop : Loop) (s : State) := s.takesAfterFollowUps (State.expireFrameTimer loop)

/-! ### The display path -/

/-- PASS_START (R84, R86). -/
def execPassStart (s : State) := s.takes State.startPass

/-- The completion of the pass in flight, if there is one (R88). -/
def State.endPass (s : State) : State :=
  match s.composer.pass with
  | none => s
  | some p => s.completePass p

/-- PASS_COMPLETION (R88). -/
def execPassCompletion (s : State) := s.takesAfterDue State.endPass

/-- FRAME_START (R106, R168). -/
def execFrameStart (loop : Loop) (s : State) := s.takesAfterPassStart (State.startFrame loop)

/-- SLOT_END (R113, R168). -/
def execSlotEnd (loop : Loop) (window : List RxChar) (s : State) := s.takesAfterDue fun s => s.endSlot loop window

/-- FRAME_END (R109, R168). -/
def execFrameEnd (loop : Loop) (s : State) := s.takesAfterDue fun s => s.endFrame loop

/-! ### Tests, link, resets -/

/-- MEMORY_TEST_COMPLETION (R167). -/
def execMemoryTestCompletion (passed : Bool) (s : State) := s.takesAfterDue fun s => s.completeMemoryTest passed

/-- CHARACTER_RECEIVED (R177). -/
def execCharacterReceived (char : RxChar) (s : State) := s.takesAfterDue (State.receive char)

/-- SERVICE_BEGIN (R179). -/
def execServiceBegin (s : State) := s.takesAfterDue State.beginService

/-- SOFTWARE_RESET (R174). -/
def execSoftwareReset (s : State) := s.takesAfterDue State.endResetReply

/-- HARDWARE_RESET_ASSERT (R173): the pin is not an event the part takes in its turn, so nothing that is due comes
before it. -/
def execHardwareResetAssert (s : State) : Host.Outcome State Fault Refusal :=
  .next s.assertReset

/-- HARDWARE_RESET_NEGATION (R173); power-up is the same (log entry 19). -/
def execHardwareResetNegation (straps : Straps) (s : State) : Host.Outcome State Fault Refusal :=
  .next (s.negateReset straps)

end Sys2Proof.Machine
end

