-- ==== Sys2Proof/Machine/Dispatch.lean ====
section
/-!
DEFINITION. The meaning of each command, one arm for each constructor of `Instr`.
-/

namespace Sys2Proof.Machine

/-- The effect of a command on everything but the queue. -/
def exec (i : Instr) (s : State) : Host.Outcome State Fault Refusal :=
  match i with
  | .readStatus => Sys2Proof.Machine.execReadStatus s
  | .setModeOnline => Sys2Proof.Machine.execSetModeOnline s
  | .setModeOffline => Sys2Proof.Machine.execSetModeOffline s
  | .reset => Sys2Proof.Machine.execReset s
  | .softwareReset => Sys2Proof.Machine.execSoftwareReset s
  | .runTest kind => Sys2Proof.Machine.execRunTest kind s
  | .memoryTestCompletion passed => Sys2Proof.Machine.execMemoryTestCompletion passed s
  | .abortTest => Sys2Proof.Machine.execAbortTest s
  | .readTestResults => Sys2Proof.Machine.execReadTestResults s
  | .definePoint args => Sys2Proof.Machine.execDefinePoint args s
  | .deletePoint point => Sys2Proof.Machine.execDeletePoint point s
  | .readPoint point => Sys2Proof.Machine.execReadPoint point s
  | .updatePoints updates => Sys2Proof.Machine.execUpdatePoints updates s
  | .forcePoint point value => Sys2Proof.Machine.execForcePoint point value s
  | .releasePoint point => Sys2Proof.Machine.execReleasePoint point s
  | .inhibitPoint point => Sys2Proof.Machine.execInhibitPoint point s
  | .enablePoint point => Sys2Proof.Machine.execEnablePoint point s
  | .acknowledge scope argument => Sys2Proof.Machine.execAcknowledge scope argument s
  | .silence => Sys2Proof.Machine.execSilence s
  | .readAnnunciation start count => Sys2Proof.Machine.execReadAnnunciation start count s
  | .setHornThreshold value => Sys2Proof.Machine.execSetHornThreshold value s
  | .setDeskControl enable period => Sys2Proof.Machine.execSetDeskControl enable period s
  | .deskSample pins => Sys2Proof.Machine.execDeskSample pins s
  | .tick => Sys2Proof.Machine.execTick s
  | .prescaleExpiry generator => Sys2Proof.Machine.execPrescaleExpiry generator s
  | .phaseToggle generator => Sys2Proof.Machine.execPhaseToggle generator s
  | .setCadence generator prescale lit dark run => Sys2Proof.Machine.execSetCadence generator prescale lit dark run s
  | .setTime time => Sys2Proof.Machine.execSetTime time s
  | .passStart => Sys2Proof.Machine.execPassStart s
  | .passCompletion => Sys2Proof.Machine.execPassCompletion s
  | .frameTimerExpiry loop => Sys2Proof.Machine.execFrameTimerExpiry loop s
  | .frameStart loop => Sys2Proof.Machine.execFrameStart loop s
  | .slotEnd loop window => Sys2Proof.Machine.execSlotEnd loop window s
  | .frameEnd loop => Sys2Proof.Machine.execFrameEnd loop s
  | .configureTile loop slot size enable => Sys2Proof.Machine.execConfigureTile loop slot size enable s
  | .setLoopTiming loop period => Sys2Proof.Machine.execSetLoopTiming loop period s
  | .setIntensity value => Sys2Proof.Machine.execSetIntensity value s
  | .readLoopStatus loop => Sys2Proof.Machine.execReadLoopStatus loop s
  | .lampTest duration => Sys2Proof.Machine.execLampTest duration s
  | .hostTimerExpiry => Sys2Proof.Machine.execHostTimerExpiry s
  | .readLampFaults start => Sys2Proof.Machine.execReadLampFaults start s
  | .linkCountdownExpiry => Sys2Proof.Machine.execLinkCountdownExpiry s
  | .outstationCountdownExpiry outstation => Sys2Proof.Machine.execOutstationCountdownExpiry outstation s
  | .setSupervision mode period => Sys2Proof.Machine.execSetSupervision mode period s
  | .setOutstationPeriods first periods => Sys2Proof.Machine.execSetOutstationPeriods first periods s
  | .siteHeartbeat outstations => Sys2Proof.Machine.execSiteHeartbeat outstations s
  | .readOutstations first count => Sys2Proof.Machine.execReadOutstations first count s
  | .readJournal count => Sys2Proof.Machine.execReadJournal count s
  | .setJournalSelection values => Sys2Proof.Machine.execSetJournalSelection values s
  | .characterReceived char => Sys2Proof.Machine.execCharacterReceived char s
  | .gapTimerExpiry => Sys2Proof.Machine.execGapTimerExpiry s
  | .serviceBegin => Sys2Proof.Machine.execServiceBegin s
  | .hardwareResetAssert => Sys2Proof.Machine.execHardwareResetAssert s
  | .hardwareResetNegation straps => Sys2Proof.Machine.execHardwareResetNegation straps s

end Sys2Proof.Machine
end

