-- ==== Sys2Proof/Safety.lean ====
section
/-!
DEFINITION. What a run of the part must not break: the invariants the rules state, and the conditions under which a
command comes to its own effect.
-/

namespace Sys2Proof.Machine

/-! ### When a command comes to its effect -/

/-- Nothing that follows an event at once is due: no toggle of a phase, no frame start, no pass start (R72, R83, R84). -/
def State.ready (s : State) : Bool :=
  !s.toggleDue .fast && !s.toggleDue .slow && !s.toggleDue .wink && !s.frameStartDue .a && !s.frameStartDue .b &&
    !s.passDue

/-- Nothing is due at once: nothing follows, and no expiry of a cadence generator or a frame timer is due (R71, R104). -/
def State.quiet (s : State) : Bool :=
  s.ready && !s.prescaleDue .fast && !s.prescaleDue .slow && !s.prescaleDue .wink && !s.frameTimerDue .a &&
    !s.frameTimerDue .b

/-- No expiry of the last tick is waiting for its own command, and no service is (R179). -/
def State.settled (s : State) : Bool :=
  !s.linkDue && (List.finRange 128).all (fun n => !s.outstationDue n) && !s.gapDue && !s.hostTimerDue &&
    !s.sampleDue && !s.serviceDue

/-- The part takes an event that falls due at a tick: RESET is not asserted, and nothing that follows an earlier event at
once is due. -/
def State.takesExpiries (s : State) : Bool :=
  !s.inReset && s.ready

/-- The part takes commands: RESET is not asserted, and nothing is due at once. -/
def State.attends (s : State) : Bool :=
  !s.inReset && s.quiet

/-- The part serves a request that arrives: it takes commands, no reply is being sent, and no item waits in the queue
(R178, R179). -/
def State.serves (s : State) : Bool :=
  s.attends && s.linkIdle

/-- The part serves every request: no test is RUNNING or ABORTING either (R179). -/
def State.open (s : State) : Bool :=
  s.serves && !s.mode.testOn

/-- The commands that come after what is due at once: all but the events that are due at a tick or at once themselves,
and the two edges of the reset pin (log entry 4). -/
def followsWhatIsDue : Instr → Bool
  | .prescaleExpiry _ | .phaseToggle _ | .deskSample _ | .hostTimerExpiry | .linkCountdownExpiry => false
  | .outstationCountdownExpiry _ | .gapTimerExpiry | .frameTimerExpiry _ | .frameStart _ | .passStart => false
  | .hardwareResetAssert | .hardwareResetNegation _ => false
  | _ => true

/-- The commands that are events due at a tick, each before or after the others of its tick, all after what an earlier
event brings about at once (log entry 4). -/
def fallsDueAtATick : Instr → Bool
  | .prescaleExpiry _ | .deskSample _ | .hostTimerExpiry | .linkCountdownExpiry => true
  | .outstationCountdownExpiry _ | .gapTimerExpiry | .frameTimerExpiry _ => true
  | _ => false

/-! ### Invariants -/

/-- The entries of a ring carry consecutive sequence numbers that end just before `next` (R155). -/
def Consecutive (next : Word) : List JournalEntry → Prop
  | [] => True
  | [e] => e.seq + 1 = next
  | e :: f :: rest => e.seq + 1 = f.seq ∧ Consecutive next (f :: rest)

/-- The journal law: at most 256 entries and 1024 items, consecutive sequence numbers, ATTN exactly while the ring
holds an entry (R155, R159). -/
def JournalUnit.Lawful (j : JournalUnit) : Prop :=
  j.ring.length ≤ Config.ringCapacity ∧ itemsHeld j.ring ≤ Config.detailCapacity ∧ Consecutive j.nextSeq j.ring ∧
    (j.attn = true ↔ j.ring ≠ [])

/-- Every entry of the ring carries at most 64 detail items (R151). -/
def JournalUnit.ItemsBounded (j : JournalUnit) : Prop :=
  ∀ e ∈ j.ring, e.details.length ≤ 64

/-- The list stands in non-decreasing priority order (R34). -/
def AlarmUnit.Ordered (u : AlarmUnit) : Prop :=
  u.list.Pairwise fun e f => e.priority ≤ f.priority

/-- The list law: each point at most once, and exactly the defined, non-inhibited ALARM points in ALARM_UNACK or
CLEARED_UNACK, each with its point's priority and section (R32, R33). -/
def State.ListLaw (s : State) : Prop :=
  (s.alarm.list.map AnnEntry.point).Nodup ∧
    (∀ e ∈ s.alarm.list, ∃ r, s.point? e.point = some r ∧ r.kind = .alarm ∧ r.inhibited = false ∧
      (r.alarm = some .alarmUnack ∨ r.alarm = some .clearedUnack) ∧ e.priority = r.priority ∧ e.sect = r.sect) ∧
    ∀ p r, s.point? p = some r → r.kind = .alarm → r.inhibited = false →
      (r.alarm = some .alarmUnack ∨ r.alarm = some .clearedUnack) → ∃ e ∈ s.alarm.list, e.point = p

/-- HORN stands as Table 2-8 derives it (R44), and is QUIET while RESET is asserted (R173). -/
def State.HornDerived (s : State) : Prop :=
  s.alarm.horn = hornOf s.inReset s.mode.device s.alarm.list ∧
    s.alarm.hornPin = hornSignal s.alarm.horn s.cadence.fast.phase

/-- A test is RUNNING or ABORTING only while OFFLINE (R162), no loop is RUNNING while OFFLINE (R163), and a loop is TESTING
only while a loop test is on (R168). -/
def State.ModeLaw (s : State) : Prop :=
  (s.mode.testOn = true → s.mode.device = .offline) ∧
    (s.mode.device = .offline → ∀ l, (s.loop l).state ≠ .running) ∧
    ∀ l, (s.loop l).state = .testing → s.mode.test.kind = .loop ∧ s.mode.testOn = true

/-- The tables stand in their canonical form: keys strictly rising (section Memory and ordering of INVENTORY.md). -/
def State.TablesCanonical (s : State) : Prop :=
  s.points.table.wf ∧ s.points.owners.wf ∧ s.proving.wf

/-- The fields of a record agree with its kind: the lamp count, the ring-back, the alarm state, the values
(R1, R2, R25). -/
def PointRecord.Lawful (r : PointRecord) : Prop :=
  r.kind.allows r.lamps.length = true ∧ r.lamps.Nodup ∧ (r.ringBack = true → r.kind = .alarm) ∧
    (r.alarm.isSome = true ↔ r.kind = .alarm) ∧ (r.inhibited = true → r.alarm.getD .normal = .normal) ∧
    (∀ v, r.live = some v → r.accepts v = true) ∧ ∀ v, r.forced = some v → r.accepts v = true

/-- Every defined point has a number 0 to 2047 and a lawful record (R1). -/
def PointStore.Lawful (ps : PointStore) : Prop :=
  ∀ p r, ps.table.get? p = some r → p < 2048 ∧ r.Lawful

/-- The ownership law: a lamp is owned by a point exactly when it stands in the lamp list of that defined point (R6). -/
def PointStore.OwnersAgree (ps : PointStore) : Prop :=
  ∀ lamp p, ps.owners.get? lamp = some p ↔ ∃ r, ps.table.get? p = some r ∧ ∃ n ∈ r.lamps, n.val = lamp

/-- Every proving streak is below 3, and the streak kind is present exactly under UNPROVEN or GOOD with a streak above 0
(R125). -/
def ProvingRecord.Lawful (r : ProvingRecord) : Prop :=
  r.streak ≤ 2 ∧ (r.kind.isSome = true ↔ (r.verdict = .unproven ∨ r.verdict = .good) ∧ 0 < r.streak)

/-- Every streak of a tile is below 3, and the one that belongs to no state is 0 (R112). -/
def Tile.Lawful (t : Tile) : Prop :=
  t.missStreak ≤ 2 ∧ t.replyStreak ≤ 2 ∧ (t.state ≠ .absent → t.replyStreak = 0) ∧
    ((t.state = .absent ∨ t.state = .disabled) → t.missStreak = 0)

/-- An outstation is UNSUPERVISED exactly when its period is 0, and its countdown runs exactly while it is HEALTHY
(R143, R144). -/
def Outstation.Lawful (o : Outstation) : Prop :=
  (o.state = .unsupervised ↔ o.period = 0) ∧ (o.countdown.runs = true ↔ o.state = .healthy)

/-- The link countdown runs exactly while the mode watches the link and the state is HEALTHY; in OFF the state is
HEALTHY (R139, R142). -/
def LinkRecord.Lawful (r : LinkRecord) : Prop :=
  (r.countdown.runs = true ↔ r.mode ≠ .off ∧ r.state = .healthy) ∧ (r.mode = .off → r.state = .healthy)

/-- A filter's count is below 3, its candidate is present exactly while the count is above 0 and differs from the
filtered level (R51, R53, R54). -/
def Filter.Lawful {α : Type} (f : Filter α) : Prop :=
  f.count ≤ 2 ∧ (f.candidate.isSome = true ↔ 0 < f.count) ∧ f.candidate ≠ some f.level

/-- The Desk Unit's law. -/
def DeskUnit.Lawful (d : DeskUnit) : Prop :=
  d.ack.Lawful ∧ d.silence.Lawful ∧ d.lampTest.Lawful ∧ d.allSections.Lawful ∧ d.selector.Lawful ∧
    (d.period = 1 ∨ d.period = 4 ∨ d.period = 16)

/-- A generator's reload values are in range, and a STOPPED generator is in phase LIT (R70, R76). -/
def CadenceGenerator.Lawful (x : CadenceGenerator) : Prop :=
  1 ≤ x.prescaleReload ∧ x.prescaleReload ≤ 256 ∧ 1 ≤ x.litReload ∧ x.litReload ≤ 255 ∧ 1 ≤ x.darkReload ∧
    x.darkReload ≤ 255 ∧ (x.running = false → x.phase = .lit)

/-- The settings a host can write stand in their ranges (R51, R70, R76, R105). -/
def State.SettingsInRange (s : State) : Prop :=
  s.desk.Lawful ∧ (∀ g, (s.cadence.generator g).Lawful) ∧
    ∀ l, 20 ≤ (s.loop l).period ∧ (s.loop l).period ≤ 200

/-- Every streak of the proving records and the tile records is lawful (R112, R125). -/
def State.StreaksLawful (s : State) : Prop :=
  (∀ lamp, (provingOf s.proving lamp).Lawful) ∧ ∀ l slot, ((s.loop l).tiles.get slot).Lawful

/-- The Supervision Unit's law. -/
def SupervisionUnit.Lawful (u : SupervisionUnit) : Prop :=
  u.link.Lawful ∧ ∀ n, (u.outstations.get n).Lawful

/-- A request is IN_FLIGHT exactly for the loop of a pass that has not been discarded (R82). -/
def Composer.Lawful (c : Composer) : Prop :=
  ∀ l, c.request l = .inFlight ↔ ∃ p, c.pass = some p ∧ p.loop = l ∧ p.discarded = false

/-- The queue holds at most 4 items (R178). -/
def LinkInterface.QueueBounded (l : LinkInterface) : Prop :=
  l.queue.length ≤ Config.queueCapacity

end Sys2Proof.Machine
end

