-- ==== Sys2Proof/Certificates/Slice0/Obligations.lean ====
section
/-!
DEFINITION. The statements for the provers. Each is a `Prop`; none is proved here.

The conditions of Safety.lean under which a command comes to its own effect are `s.attends` (RESET is negated and nothing
is due at once), `s.serves` (and no reply is being sent and no item waits in the queue), `s.open` (and no test is on) and,
for the events that fall due at a tick, `s.takesExpiries` (RESET is negated and nothing that follows an earlier event at
once is due). A state written `{ s with points := u.points, … }` says that every field not named in it is as in `s`.
`s.catchUp` is `s` with the pass in flight advanced by the free value, as it is before anything a pass reads is changed
(log entry 5); O42 says what it is.
-/

open Sys2Proof Sys2Proof.Machine

/-! ### The step and the queue of commands -/

/-- O1. A step takes the command at the front of the queue and runs it on the rest. On an empty queue the part idles
(the model's choice, log entry 3). -/
def Obligations.StepTakesTheFrontCommand : Prop :=
  (∀ (c : Instr) (rest : List Instr) (s : State), s.pending = c :: rest →
    step s = exec c { s with pending := rest }) ∧
  ∀ s : State, s.pending = [] → step s = .next s

/-- O2. No command changes the queue of waiting commands, the part's own queue of requests being another. -/
def Obligations.CommandsLeaveThePendingQueue : Prop :=
  ∀ (c : Instr) (s t : State), exec c s = .next t → t.pending = s.pending

/-- O3. While RESET is asserted the part takes no event but the negation of RESET, and a further assertion finds
nothing left to change. Otherwise what is due at once comes before the command and leaves nothing due at once: a command
acts on any state as it acts on an attending one. An event that falls due at a tick comes after what an earlier event
brings about at once, the start of a pass among it, and leaves none of it due; a toggle and a frame start come after a
pass start that is due. The order of what is due together is the model's (log entries 4 and 24). -/
def Obligations.WhatIsDueComesFirst : Prop :=
  (∀ (c : Instr) (s : State), s.inReset = true → c ≠ .hardwareResetAssert →
    (∀ straps, c ≠ .hardwareResetNegation straps) → exec c s = .next s) ∧
  (∀ s t : State, exec .hardwareResetAssert s = .next t → exec .hardwareResetAssert t = .next t) ∧
  ∀ s : State, s.inReset = false →
    s.atOnce.attends = true ∧ s.followUps.takesExpiries = true ∧ s.startPass.passDue = false ∧
    (∀ c : Instr, followsWhatIsDue c = true → exec c s = exec c s.atOnce) ∧
    (∀ c : Instr, fallsDueAtATick c = true → exec c s = exec c s.followUps) ∧
    (∀ g : Generator, exec (.phaseToggle g) s = exec (.phaseToggle g) s.startPass) ∧
    (∀ l : Loop, exec (.frameStart l) s = exec (.frameStart l) s.startPass)

/-! ### The link -/

/-- O4. A queued request body acts as the command it spells: for every request command, every operand at every value.
That a request comes as a command of its own is the model's (log entry 7). -/
def Obligations.QueuedBodyActsAsItsCommand : Prop :=
  ∀ (c : Instr) (body : List Byte) (s : State), requestBody c = some body → s.serves = true →
    exec c s = .next (s.serveBody body)

/-- O5. The receiver takes a whole good frame: after every character of `frameOf body` it is in HUNT again, and the body
stands at the tail of the queue, or is lost with QUEUE_LOST when the queue is full. -/
def Obligations.ReceiverTakesAWholeFrame : Prop :=
  ∀ (body : List Byte) (s : State), 1 ≤ body.length → body.length ≤ 1024 → s.link.receiver = .hunt →
    let t := (frameOf body).foldl (fun u b => u.receive ⟨b, true⟩) s
    t.link.receiver = .hunt ∧ t.link.gap = .stopped 0 ∧ t.link.reply = s.link.reply ∧
      (s.link.queue.length < 4 →
        t.link.queue = s.link.queue ++ [.request body] ∧ t.link.queueLost = s.link.queueLost) ∧
      (4 ≤ s.link.queue.length → t.link.queue = s.link.queue ∧ t.link.queueLost = true) ∧
      t = { s.goodFrame with link := t.link }

/-- O6. Each character moves the receiver as Table 11-2 gives, and touches nothing but the Link Interface unless it is
the second check byte; the gap timer's expiry abandons the frame. An expiry that is not due is dropped (log entry 6), and
the receive buffer keeps its bytes in HUNT (log entry 17). -/
def Obligations.ReceiverFollowsItsTable : Prop :=
  (∀ s : State, s.takesExpiries = true →
    (s.link.gap ≠ .expired → exec .gapTimerExpiry s = .next s) ∧
    (s.link.gap = .expired →
      exec .gapTimerExpiry s =
        .next { s with link := { s.link with receiver := .hunt, buffer := [], gap := .stopped 0 } })) ∧
  ∀ (s : State) (c : RxChar), s.attends = true →
    exec (.characterReceived c) s = .next (s.receive c) ∧
    (s.link.receiver = .hunt → c.stopOk = true → c.byte = 0xA5 →
      s.receive c = { s with link := { s.link with receiver := .length, buffer := [], gap := .counting 100 } }) ∧
    (s.link.receiver = .hunt → (c.stopOk = false ∨ c.byte ≠ 0xA5) → s.receive c = s) ∧
    (s.link.receiver ≠ .hunt → c.stopOk = false →
      s.receive c = { s with link := { s.link with receiver := .hunt, gap := .stopped 0 } }) ∧
    (s.link.receiver = .length → s.link.buffer = [] → c.stopOk = true →
      s.receive c =
        { s with link := { s.link with receiver := .length, buffer := [c.byte], gap := .counting 100 } }) ∧
    (∀ hi, s.link.receiver = .length → s.link.buffer = [hi] → c.stopOk = true →
      1 ≤ hi.toNat * 256 + c.byte.toNat → hi.toNat * 256 + c.byte.toNat ≤ 1024 →
        s.receive c =
          { s with link := { s.link with receiver := .body, buffer := [hi, c.byte], gap := .counting 100 } }) ∧
    (∀ hi, s.link.receiver = .length → s.link.buffer = [hi] → c.stopOk = true →
      (hi.toNat * 256 + c.byte.toNat = 0 ∨ 1024 < hi.toNat * 256 + c.byte.toNat) →
        s.receive c =
          { s with link :=
            ({ s.link with receiver := .hunt, gap := .stopped 0 } : LinkInterface).offerItem .rejectLength }) ∧
    (∀ hi lo rest, s.link.receiver = .body → s.link.buffer = hi :: lo :: rest → c.stopOk = true →
      rest.length < hi.toNat * 256 + lo.toNat →
        s.receive c =
          { s with link :=
            { s.link with
              receiver := if rest.length + 1 = hi.toNat * 256 + lo.toNat then .check else .body
              buffer := s.link.buffer ++ [c.byte]
              gap := .counting 100 } }) ∧
    ∀ hi lo body, s.link.receiver = .check → body.length = hi.toNat * 256 + lo.toNat → c.stopOk = true →
      (s.link.buffer = hi :: lo :: body →
        s.receive c =
          { s with link :=
            { s.link with receiver := .check, buffer := s.link.buffer ++ [c.byte], gap := .counting 100 } }) ∧
      ∀ first, s.link.buffer = hi :: lo :: body ++ [first] →
        (crc16 (hi :: lo :: body) = first ++ c.byte →
          s.receive c =
            { s.goodFrame with link :=
              ({ s.link with receiver := .hunt, gap := .stopped 0 } : LinkInterface).offerItem (.request body) }) ∧
        (crc16 (hi :: lo :: body) ≠ first ++ c.byte →
          s.receive c =
            { s with link :=
              ({ s.link with receiver := .hunt, gap := .stopped 0 } : LinkInterface).offerItem .rejectCheck })

/-- O7. An offer joins the tail of a queue of fewer than 4 items, and is dropped with QUEUE_LOST set by a queue of 4.
With no reply being sent, the service of the head item takes it from the queue first, and answers a reject with kind
0xFF; an unknown kind is answered UNKNOWN. A service on an empty queue is dropped, and so is one before the transmission
of a reply has ended, be it the reply to RESET or any other (log entry 6). A request command that finds a reply being
sent or items in the queue does not come to its service: its body is offered to the queue (log entry 9). -/
def Obligations.QueueIsServedFromItsHead : Prop :=
  (∀ (l : LinkInterface) (item : QueueItem),
    (l.queue.length < 4 → l.offerItem item = { l with queue := l.queue ++ [item] }) ∧
    (l.queue.length = 4 → l.offerItem item = { l with queueLost := true })) ∧
  ∀ s : State, s.attends = true →
    (s.link.queue = [] → exec .serviceBegin s = .next s) ∧
    (s.link.reply ≠ none → exec .serviceBegin s = .next s) ∧
    (∀ (item : QueueItem) (rest : List QueueItem), s.link.reply = none → s.link.queue = item :: rest →
      let u : State := { s with link := { s.link with queue := rest } }
      (item = .rejectCheck → exec .serviceBegin s = .next (u.sendReply 0xFF .check [] false)) ∧
      (item = .rejectLength → exec .serviceBegin s = .next (u.sendReply 0xFF .length [] false)) ∧
      (∀ body, item = .request body → exec .serviceBegin s = .next (u.serveBody body)) ∧
      ∀ kind payload, item = .request (kind :: payload) → readerOf kind = none →
        exec .serviceBegin s = .next (u.sendReply (kind + 0x80) .unknown [] false)) ∧
    ∀ (c : Instr) (body : List Byte), requestBody c = some body → (s.link.reply ≠ none ∨ s.link.queue ≠ []) →
      exec c s = .next { s with link := s.link.offerItem (.request body) }

/-- O8. A reply is one frame whose body is the kind, the status, the flags and the payload: bit 0 of the flags is
QUEUE_LOST, which is then cleared, bit 1 is the ATTN level, and the others are 0. The frame is the start byte, the
length, the body and the CRC-16 of the length and the body, each field most significant byte first. Each character goes
out as a start bit, 8 data bits least significant first and a stop bit, at the rate of Table 11-1; TXD is idle exactly
while no reply is being sent. That the transmission is counted, in thousandths of a bit time, is the model's (log entry
8). -/
def Obligations.ReplyIsOneFrameWithItsFlags : Prop :=
  (∀ (s : State) (kind : Byte) (status : Status) (payload : List Byte) (ofReset : Bool),
    ∃ flags : Byte, flags.getLsbD 0 = s.link.queueLost ∧ flags.getLsbD 1 = s.journal.attn ∧
      (∀ i, 2 ≤ i → flags.getLsbD i = false) ∧
      let frame := frameOf (kind :: status.code :: flags :: payload)
      s.sendReply kind status payload ofReset =
        { s with link :=
          { s.link with queueLost := false, reply := some ⟨frame, ofReset, 1000 * (lineBits frame).length⟩ } }) ∧
  (lineBits [] = [] ∧ ∀ (b : Byte) (rest : List Byte),
    lineBits (b :: rest) =
      [false, b.getLsbD 0, b.getLsbD 1, b.getLsbD 2, b.getLsbD 3, b.getLsbD 4, b.getLsbD 5, b.getLsbD 6, b.getLsbD 7,
        true] ++ lineBits rest) ∧
  (∀ testAtStart supvAuto : Bool,
    bitRate ⟨false, false, testAtStart, supvAuto⟩ = 9600 ∧ bitRate ⟨true, false, testAtStart, supvAuto⟩ = 19200 ∧
      bitRate ⟨false, true, testAtStart, supvAuto⟩ = 57600 ∧ bitRate ⟨true, true, testAtStart, supvAuto⟩ = 115200) ∧
  (∀ s : State, s.txdIdle = true ↔ s.link.reply = none) ∧
  ∀ body : List Byte, body.length ≤ 1024 →
    ∃ l1 l0 c1 c0 : Byte, frameOf body = [0xA5, l1, l0] ++ body ++ [c1, c0] ∧
      l1.toNat * 256 + l0.toNat = body.length ∧ c1 ++ c0 = crc16 ([l1, l0] ++ body) ∧
      (frameOf body).length = body.length + 5

/-! ### The request gate -/

/-- O9. During a test every request but the five that pass is answered BUSY and changes nothing; this comes before the
payload's length and before any check of the owning block, and holds for every body of a known kind. -/
def Obligations.TestsHoldOffRequests : Prop :=
  ∀ (kind : Byte) (payload : List Byte) (s : State),
    kind ≠ 0x01 → kind ≠ 0x03 → kind ≠ 0x05 → kind ≠ 0x06 → kind ≠ 0x50 →
    (s.mode.test.state = .running ∨ s.mode.test.state = .aborting) →
    (readerOf kind ≠ none → s.serveBody (kind :: payload) = s.sendReply (kind + 0x80) .busy [] false) ∧
    ∀ c : Instr, requestBody c = some (kind :: payload) → s.serves = true →
      exec c s = .next (s.sendReply (kind + 0x80) .busy [] false)

/-- O10. A request whose payload has no allowed length is answered FORMAT and changes nothing; for the five kinds that pass
during a test this holds at all times. -/
def Obligations.WrongLengthsAreRefused : Prop :=
  (∀ (s : State) (payload : List Byte),
    (payload ≠ [] →
      s.serveBody (0x01 :: payload) = s.sendReply 0x81 .format [] false ∧
      s.serveBody (0x03 :: payload) = s.sendReply 0x83 .format [] false ∧
      s.serveBody (0x05 :: payload) = s.sendReply 0x85 .format [] false ∧
      s.serveBody (0x06 :: payload) = s.sendReply 0x86 .format [] false) ∧
    (payload.length ≠ 1 → s.serveBody (0x50 :: payload) = s.sendReply 0xD0 .format [] false)) ∧
  ∀ s : State, s.open = true →
    (∀ d : DefineArgs, (d.lampCount = 0 ∨ 8 < d.lampCount.toNat ∨ d.lamps.length ≠ d.lampCount.toNat) →
      exec (.definePoint d) s = .next (s.sendReply 0x90 .format [] false)) ∧
    (∀ us : List Update, (us = [] ∨ 32 < us.length) →
      exec (.updatePoints us) s = .next (s.sendReply 0x93 .format [] false)) ∧
    (∀ (first : Byte) (ps : List Half), (ps = [] ∨ 128 < ps.length) →
      exec (.setOutstationPeriods first ps) s = .next (s.sendReply 0xC1 .format [] false)) ∧
    (∀ os : List Byte, (os = [] ∨ 32 < os.length) →
      exec (.siteHeartbeat os) s = .next (s.sendReply 0xC2 .format [] false)) ∧
    (∀ vs : List Byte, vs.length ≠ 16 →
      exec (.setJournalSelection vs) s = .next (s.sendReply 0xD1 .format [] false)) ∧
    ∀ (kind : Byte) (payload : List Byte) (reader : List Byte → Option Request),
      readerOf kind = some reader → reader payload = none →
        s.serveBody (kind :: payload) = s.sendReply (kind + 0x80) .format [] false

/-- O11. A field outside its range is answered RANGE, and the request changes nothing. READ JOURNAL is served so during a
test too. A SET MODE body with a mode code above 1 spells no command of the table and is answered so as well. -/
def Obligations.OutOfRangeRequestsAreRefused : Prop :=
  (∀ (s : State) (a : Byte), s.serves = true → (a = 0 ∨ 16 < a.toNat) →
    exec (.readJournal a) s = .next (s.sendReply 0xD0 .range [] false)) ∧
  (∀ (s : State) (code : Byte), s.open = true → 2 ≤ code.toNat →
    s.serveBody [0x02, code] = s.sendReply 0x82 .range [] false) ∧
  ∀ s : State, s.open = true → ∀ (a b c d e : Byte) (h : Half),
    (4 ≤ a.toNat → exec (.setHornThreshold a) s = .next (s.sendReply 0xA3 .range [] false)) ∧
    (16 ≤ a.toNat → exec (.setIntensity a) s = .next (s.sendReply 0xB2 .range [] false)) ∧
    (2 ≤ a.toNat → exec (.readLoopStatus a) s = .next (s.sendReply 0xB4 .range [] false)) ∧
    (2 ≤ a.toNat ∨ h.toNat < 20 ∨ 200 < h.toNat →
      exec (.setLoopTiming a h) s = .next (s.sendReply 0xB1 .range [] false)) ∧
    (2 ≤ a.toNat ∨ 32 ≤ b.toNat ∨ (c ≠ 16 ∧ c ≠ 32 ∧ c ≠ 64) ∨ 2 ≤ d.toNat →
      exec (.configureTile a b c d) s = .next (s.sendReply 0xB0 .range [] false)) ∧
    (∀ vs : List Byte, vs.length = 16 → (∃ v ∈ vs, 15 < v.toNat) →
      exec (.setJournalSelection vs) s = .next (s.sendReply 0xD1 .range [] false)) ∧
    (4 ≤ a.toNat ∨ (a = 0 ∧ 2048 ≤ h.toNat) ∨ (a = 1 ∧ 16 ≤ h.toNat) →
      exec (.acknowledge a h) s = .next (s.sendReply 0xA0 .range [] false)) ∧
    (2048 ≤ h.toNat ∨ a = 0 ∨ 128 < a.toNat →
      exec (.readAnnunciation h a) s = .next (s.sendReply 0xA2 .range [] false)) ∧
    (a ≠ 1 → a ≠ 2 → exec (.runTest a) s = .next (s.sendReply 0x84 .range [] false)) ∧
    (60 < a.toNat → exec (.lampTest a) s = .next (s.sendReply 0xB3 .range [] false)) ∧
    (2 ≤ a.toNat ∨ (b ≠ 1 ∧ b ≠ 4 ∧ b ≠ 16) →
      exec (.setDeskControl a b) s = .next (s.sendReply 0xA4 .range [] false)) ∧
    (3 ≤ a.toNat ∨ h = 0 ∨ 256 < h.toNat ∨ b = 0 ∨ c = 0 ∨ 2 ≤ d.toNat →
      exec (.setCadence a h b c d) s = .next (s.sendReply 0xB8 .range [] false)) ∧
    (3 ≤ a.toNat ∨ b = 0 → exec (.setSupervision a b) s = .next (s.sendReply 0xC0 .range [] false)) ∧
    (∀ ps : List Half, ps ≠ [] → ps.length ≤ 128 →
      (128 ≤ a.toNat ∨ 128 < a.toNat + ps.length ∨ ∃ p ∈ ps, 3600 < p.toNat) →
        exec (.setOutstationPeriods a ps) s = .next (s.sendReply 0xC1 .range [] false)) ∧
    (128 ≤ a.toNat ∨ b = 0 ∨ 128 < b.toNat →
      exec (.readOutstations a b) s = .next (s.sendReply 0xC3 .range [] false)) ∧
    (4096 ≤ h.toNat → exec (.readLampFaults h) s = .next (s.sendReply 0xB5 .range [] false)) ∧
    (2048 ≤ h.toNat →
      exec (.deletePoint h) s = .next (s.sendReply 0x91 .range [] false) ∧
      exec (.readPoint h) s = .next (s.sendReply 0x92 .range [] false) ∧
      exec (.forcePoint h e) s = .next (s.sendReply 0x94 .range [] false) ∧
      exec (.releasePoint h) s = .next (s.sendReply 0x95 .range [] false) ∧
      exec (.inhibitPoint h) s = .next (s.sendReply 0x96 .range [] false) ∧
      exec (.enablePoint h) s = .next (s.sendReply 0x97 .range [] false))

/-! ### Reading and setting -/

/-- O12. READ STATUS passes the gate at all times, changes nothing and answers with the identity, the modes, the loop
states, the counts, the HORN state and the lamp-test state (R171, Table 11-14). -/
def Obligations.ReadStatusReportsThePart : Prop :=
  ∀ s : State, s.serves = true →
    exec .readStatus s =
      .next
        (s.sendReply 0x81 .ok
          ([0x4B, 0x10, 0x00, 1, byteOf s.mode.device.code, byteOf s.mode.test.kind.code,
            byteOf s.mode.test.state.code, byteOf s.loopA.state.code, flagByte s.loopA.repeated,
            byteOf s.loopB.state.code, flagByte s.loopB.repeated, byteOf s.supervision.link.mode.code,
            s.supervision.link.state.code] ++
            halfBytes s.points.table.cells.length ++ halfBytes s.alarm.list.length ++
            halfBytes s.journal.ring.length ++ [byteOf s.alarm.horn.code, flagByte s.mode.lampTestActive])
          false)

/-- O13. READ TEST RESULTS passes the gate at all times, changes nothing and answers with the test record. -/
def Obligations.ReadTestResultsReportsTheRecord : Prop :=
  ∀ s : State, s.serves = true →
    exec .readTestResults s =
      .next
        (s.sendReply 0x86 .ok
          ([byteOf s.mode.test.kind.code, byteOf s.mode.test.state.code, byteOf s.mode.test.framesA,
            byteOf s.mode.test.framesB] ++
            (List.finRange 64).map fun t => byteOf (s.mode.test.results.get t).code)
          false)

/-- O14. SET HORN THRESHOLD, SET INTENSITY, SET LOOP TIMING, CONFIGURE TILE and SET TIME store what they carry and
change nothing else: no mark, no horn, no tile state, no streak, no latched map, no counter of a generator. -/
def Obligations.SettingsAreStored : Prop :=
  ∀ s : State, s.open = true →
    (∀ v : Fin 4, exec (.setHornThreshold (byteOf v.val)) s =
      .next (({ s with alarm := { s.alarm with threshold := v } } : State).sendReply 0xA3 .ok [] false)) ∧
    (∀ v : Fin 16, exec (.setIntensity (byteOf v.val)) s =
      .next (({ s with intensity := v } : State).sendReply 0xB2 .ok [] false)) ∧
    (∀ (l : Loop) (period : Half), 20 ≤ period.toNat → period.toNat ≤ 200 →
      exec (.setLoopTiming (byteOf (loopIndex l)) period) s =
        .next ((s.withLoop l { s.loop l with period := period.toNat }).sendReply 0xB1 .ok [] false)) ∧
    (∀ (l : Loop) (slot : Fin 32) (z : TileSize) (e : Bool),
      exec (.configureTile (byteOf (loopIndex l)) (byteOf slot.val) (byteOf z.outputs) (flagByte e)) s =
        .next
          ((s.withLoop l
            { s.loop l with
              tiles := (s.loop l).tiles.put slot
                { (s.loop l).tiles.get slot with size := z, enabled := e } }).sendReply 0xB0 .ok [] false)) ∧
    ∀ time : Word, exec (.setTime time) s =
      .next
        (({ s with cadence := { s.cadence with time := time } } : State).sendReply 0xB9 .ok
          (wordBytes s.cadence.time) false)

/-- O15. READ LOOP STATUS, READ OUTSTATIONS and READ LAMP FAULTS change nothing and answer with what they read
(Tables 11-16 to 11-18). A countdown whose expiry is due reads as 1 tick (log entry 15). -/
def Obligations.LoopOutstationAndLampReadsReport : Prop :=
  ∀ s : State, s.open = true →
    (∀ l : Loop, exec (.readLoopStatus (byteOf (loopIndex l))) s =
      .next
        (s.sendReply 0xB4 .ok
          ([byteOf (loopIndex l), byteOf (s.loop l).state.code] ++ halfBytes (s.loop l).period ++
            [flagByte (s.loop l).repeated, flagByte (s.loop l).transfer.isSome, byteOf s.intensity.val] ++
            (List.finRange 32).flatMap fun slot =>
              [byteOf ((s.loop l).tiles.get slot).size.outputs, flagByte ((s.loop l).tiles.get slot).enabled,
                byteOf ((((s.loop l).latched.get slot).map TileSize.outputs).getD 0),
                byteOf ((s.loop l).tiles.get slot).state.code, byteOf ((s.loop l).tiles.get slot).missStreak,
                byteOf ((s.loop l).tiles.get slot).replyStreak, flagByte ((s.loop l).tiles.get slot).driveFault])
          false)) ∧
    (∀ (first : Fin 128) (count : Byte), 1 ≤ count.toNat → count.toNat ≤ 128 →
      exec (.readOutstations (byteOf first.val) count) s =
        .next
          (s.sendReply 0xC3 .ok
            ([byteOf s.supervision.link.mode.code, byteOf s.supervision.link.period, s.supervision.link.state.code,
              byteOf s.supervision.link.countdown.seconds, byteOf (min count.toNat (128 - first.val))] ++
              (((List.finRange 128).drop first.val).take count.toNat).flatMap fun n =>
                halfBytes (s.supervision.outstations.get n).period ++
                  [(s.supervision.outstations.get n).state.code] ++
                  halfBytes (s.supervision.outstations.get n).countdown.seconds)
            false)) ∧
    ∀ start : Fin 4096,
      let faulty := (List.finRange 4096).filter fun n => (provingOf s.proving n.val).verdict.faulty
      let wanted := faulty.filter fun n => start.val ≤ n.val
      s.proving.wf → (∀ c ∈ s.proving.cells, c.1 < 4096) →
        exec (.readLampFaults (BitVec.ofNat 16 start.val)) s =
          .next
            (s.sendReply 0xB5 .ok
              (halfBytes faulty.length ++ halfBytes (min 256 wanted.length) ++
                halfBytes (if wanted.length ≤ 256 then 0xFFFF else ((wanted.take 256).getLast?.elim 0 fun n => n.val + 1)) ++
                (wanted.take 256).flatMap fun n =>
                  halfBytes n.val ++ [byteOf (provingOf s.proving n.val).verdict.code])
              false)

/-- O16. READ POINT and READ ANNUNCIATION change nothing and answer with what they read (Tables 11-8 and 11-10); a point
that is undefined is answered UNDEFINED. -/
def Obligations.PointAndListReadsReport : Prop :=
  ∀ s : State, s.open = true →
    (∀ p : Fin 2048, s.point? p.val = none →
      exec (.readPoint (BitVec.ofNat 16 p.val)) s = .next (s.sendReply 0x92 .undefined [] false)) ∧
    (∀ (p : Fin 2048) (r : PointRecord), s.point? p.val = some r →
      ∃ flags : Byte,
        flags.getLsbD 0 = r.ringBack ∧ flags.getLsbD 1 = r.inhibited ∧ flags.getLsbD 2 = r.live.isSome ∧
        flags.getLsbD 3 = r.forced.isSome ∧ flags.getLsbD 4 = r.lastChange.isSome ∧
        flags.getLsbD 5 = s.alarm.list.any (fun e => e.point == p.val) ∧
        flags.getLsbD 6 = r.lamps.any (fun n => (provingOf s.proving n.val).verdict.faulty) ∧
        flags.getLsbD 7 = false ∧
        exec (.readPoint (BitVec.ofNat 16 p.val)) s =
          .next
            (s.sendReply 0x92 .ok
              (halfBytes p.val ++
                [byteOf r.kind.code, byteOf r.outstation.val, byteOf r.sect.val, byteOf r.priority.val, flags,
                  (r.live.map byteOf).getD 0, (r.forced.map byteOf).getD 0,
                  ((r.forced.or r.live).map byteOf).getD 0xFF, (r.alarm.getD .normal).code,
                  byteOf (s.supervision.quality r).code] ++
                wordBytes (r.lastChange.getD 0) ++ [byteOf r.lamps.length] ++
                r.lamps.flatMap fun n => halfBytes n.val)
              false)) ∧
    ∀ (start : Fin 2048) (count : Byte), 1 ≤ count.toNat → count.toNat ≤ 128 →
      exec (.readAnnunciation (BitVec.ofNat 16 start.val) count) s =
        .next
          (s.sendReply 0xA2 .ok
            (halfBytes s.alarm.list.length ++ [byteOf (min count.toNat (s.alarm.list.length - start.val))] ++
              ((s.alarm.list.drop start.val).take count.toNat).flatMap fun e =>
                let state := ((s.point? e.point).bind PointRecord.alarm).getD .normal
                halfBytes (state.code.toNat * 16384 + e.point) ++
                  [byteOf (e.priority.val * 64 + (if e.mark then 32 else 0) + e.sect.val)] ++ wordBytes e.entryTime)
            false)

/-- O17. The quality of a point is the first row of Table 1-3 that applies (R4). -/
def Obligations.QualityFollowsItsTable : Prop :=
  ∀ (u : SupervisionUnit) (r : PointRecord),
    (r.forced.isSome = true → u.quality r = .forced) ∧
    (r.forced = none → r.live = none → u.quality r = .awaiting) ∧
    (r.forced = none → r.live.isSome = true →
      (u.link.state = .lost ∨ (u.outstations.get r.outstation).state = .failed) → u.quality r = .stale) ∧
    (r.forced = none → r.live.isSome = true → u.link.state = .healthy →
      (u.outstations.get r.outstation).state ≠ .failed → u.quality r = .good)

/-! ### The journal -/

/-- O18. READ JOURNAL takes entries from the oldest end while fewer than the count have been taken and the next fits the
1018 bytes left, removes them, and answers with them; ATTN is asserted exactly while entries are left. -/
def Obligations.ReadJournalTakesTheOldest : Prop :=
  ∀ (s : State) (count : Byte), s.serves = true → 1 ≤ count.toNat → count.toNat ≤ 16 →
    let size := fun e : JournalEntry => 16 + 2 * e.details.length
    let subject := fun e : JournalEntry =>
      match e.subject with
      | .none => [0, 0, 0]
      | .point p => (1 : Byte) :: halfBytes p
      | .tile l slot => 2 :: halfBytes (loopIndex l * 32 + slot.val)
      | .outstation n => 3 :: halfBytes n.val
    let bytes := fun e : JournalEntry =>
      wordBytes e.seq ++ wordBytes e.time ++ [byteOf e.cls.code, byteOf e.source.code] ++ subject e ++
        [e.old, e.new, byteOf e.details.length] ++ e.details.flatMap fun i => [byteOf i.1.val, byteOf i.2.code]
    ∃ taken left : List JournalEntry, s.journal.ring = taken ++ left ∧ taken.length ≤ count.toNat ∧
      (taken.map size).sum ≤ 1018 ∧
      (∀ e, left.head? = some e → taken.length = count.toNat ∨ 1018 < ((taken ++ [e]).map size).sum) ∧
      exec (.readJournal count) s =
        .next
          (({ s with journal := { s.journal with ring := left, attn := !left.isEmpty } } : State).sendReply 0xD0 .ok
            ([byteOf taken.length] ++ halfBytes left.length ++ taken.flatMap bytes) false)

/-- O19. SET JOURNAL SELECTION writes all sixteen sections, each by the weights ALARM 1, ACK 2, CHANGE 4, ADMIN 8, and
answers with the values. -/
def Obligations.SelectionIsWrittenWhole : Prop :=
  ∀ (s : State) (values : List Byte), s.open = true → values.length = 16 → (∀ v ∈ values, v.toNat ≤ 15) →
    ∃ table : Bank 16 Selection,
      (∀ k : Fin 16, ∃ v, values[k.val]? = some v ∧ (table.get k).alarm = v.getLsbD 0 ∧
        (table.get k).ack = v.getLsbD 1 ∧ (table.get k).change = v.getLsbD 2 ∧ (table.get k).admin = v.getLsbD 3) ∧
      exec (.setJournalSelection values) s =
        .next
          (({ s with journal := { s.journal with selection := table } } : State).sendReply 0xD1 .ok values false)

/-- O20. An offer of a point class is dropped, without a trace, when its section does not select its class; any other
offer is appended: the oldest entries are discarded until the ring has a place and the store has room, the entry takes
the next sequence number and the time, and ATTN is asserted. Nothing but the journal changes. -/
def Obligations.OffersAreAppendedOrDropped : Prop :=
  ∀ (s : State) (o : Offer), o.details.length ≤ 64 →
    (∀ k, o.sect = some k → (s.journal.selection.get k).selects o.cls = false → s.offer o = s) ∧
    ((o.sect = none ∨ ∃ k, o.sect = some k ∧ (s.journal.selection.get k).selects o.cls = true) →
      ∃ gone kept : List JournalEntry, s.journal.ring = gone ++ kept ∧ kept.length < 256 ∧
        (kept ≠ [] → itemsHeld kept + o.details.length ≤ 1024) ∧
        (∀ g last, gone = g ++ [last] →
          256 ≤ (last :: kept).length ∨ 1024 < itemsHeld (last :: kept) + o.details.length) ∧
        s.offer o =
          { s with journal :=
            { s.journal with
              ring := kept ++
                [⟨s.journal.nextSeq, s.cadence.time, o.cls, o.source, o.subject, o.old, o.new, o.details⟩]
              nextSeq := s.journal.nextSeq + 1
              attn := true } })

/-! ### Points -/

/-- O21. DEFINE POINT with every field in range on FREE lamps makes the record of R13, claims every lamp for the point,
offers the ADMIN entry of action 1, and changes no other record and no other lamp. A pass in flight may have come
further before the change. -/
def Obligations.DefineMakesTheRecord : Prop :=
  ∀ (s : State) (p : Fin 2048) (kind : PointKind) (o : Fin 128) (k : Fin 16) (priority : Fin 4) (ring : Bool)
    (lamps : List (Fin 4096)), s.open = true → s.point? p.val = none → kind.allows lamps.length = true →
    lamps.Nodup → (∀ n ∈ lamps, s.points.owners.get? n.val = none) →
    ∃ u : State,
      exec (.definePoint ⟨BitVec.ofNat 16 p.val, byteOf kind.code, byteOf o.val, byteOf k.val, byteOf priority.val,
          flagByte ring, byteOf lamps.length, lamps.map fun n => BitVec.ofNat 16 n.val⟩) s =
        .next (u.sendReply 0x90 .ok [] false) ∧
      u.point? p.val =
        some ⟨kind, o, k, priority, ring && kind == .alarm, false, lamps, none, none,
          if kind = .alarm then some .normal else none, none⟩ ∧
      (∀ q, q ≠ p.val → u.point? q = s.point? q) ∧
      (∀ n ∈ lamps, u.points.owners.get? n.val = some p.val) ∧
      (∀ lamp, (∀ n ∈ lamps, n.val ≠ lamp) → u.points.owners.get? lamp = s.points.owners.get? lamp) ∧
      u.journal =
        (s.offer ⟨.admin, .host, .point p.val, 1, 0xFF, [], some k⟩).journal ∧
      u =
        { s with
          points := u.points, journal := u.journal, composer := s.catchUp.composer, freeIndex := s.catchUp.freeIndex }

/-- O22. DEFINE POINT is refused, with nothing changed, with the first check of Table 1-5 that fails: EXISTS for a
defined point, RANGE for a field out of range, LAMP_TAKEN for a lamp that is owned. -/
def Obligations.DefineChecksInOrder : Prop :=
  ∀ (s : State) (d : DefineArgs), s.open = true → 1 ≤ d.lampCount.toNat → d.lampCount.toNat ≤ 8 →
    d.lamps.length = d.lampCount.toNat →
    (2048 ≤ d.point.toNat → exec (.definePoint d) s = .next (s.sendReply 0x90 .range [] false)) ∧
    (d.point.toNat < 2048 →
      (s.point? d.point.toNat ≠ none → exec (.definePoint d) s = .next (s.sendReply 0x90 .exists [] false)) ∧
      (s.point? d.point.toNat = none →
        (3 ≤ d.kind.toNat ∨ 128 ≤ d.outstation.toNat ∨ 16 ≤ d.sect.toNat ∨ 4 ≤ d.priority.toNat ∨
            2 ≤ d.ringBack.toNat ∨ (d.kind.toNat ≤ 1 ∧ 3 ≤ d.lamps.length) ∨
            (d.kind.toNat = 2 ∧ d.lamps.length = 1) ∨ (∃ n ∈ d.lamps, 4096 ≤ n.toNat) ∨ ¬ d.lamps.Nodup →
          exec (.definePoint d) s = .next (s.sendReply 0x90 .range [] false)) ∧
        ∀ r, recordOf d = some r → (∃ n ∈ r.lamps, s.points.owners.get? n.val ≠ none) →
          exec (.definePoint d) s = .next (s.sendReply 0x90 .lampTaken [] false)))

/-- O23. DELETE POINT undefines the record, frees its lamps, takes an ALARM point's entry out of the list with HORN
derived again, offers the ADMIN entry of action 2 for the section the point had, and changes nothing else: no other
record, no other lamp, no proving record, no outstation. -/
def Obligations.DeleteUndefinesThePoint : Prop :=
  ∀ (s : State) (p : Fin 2048) (r : PointRecord), s.open = true → s.point? p.val = some r →
    ∃ u : State,
      exec (.deletePoint (BitVec.ofNat 16 p.val)) s = .next (u.sendReply 0x91 .ok [] false) ∧
      u.point? p.val = none ∧ (∀ q, q ≠ p.val → u.point? q = s.point? q) ∧
      (∀ n ∈ r.lamps, u.points.owners.get? n.val = none) ∧
      (∀ lamp, (∀ n ∈ r.lamps, n.val ≠ lamp) → u.points.owners.get? lamp = s.points.owners.get? lamp) ∧
      (r.kind = .alarm →
        u.alarm = (s.withList (s.alarm.list.filter fun e => e.point != p.val)).alarm) ∧
      (r.kind ≠ .alarm → u.alarm = s.alarm) ∧
      u.journal = (s.offer ⟨.admin, .host, .point p.val, 2, 0xFF, [], some r.sect⟩).journal ∧
      u =
        { s with
          points := u.points, alarm := u.alarm, journal := u.journal, composer := s.catchUp.composer
          freeIndex := s.catchUp.freeIndex }

/-- O24. DELETE, FORCE, RELEASE, INHIBIT and ENABLE POINT of an undefined point are answered UNDEFINED, and a FORCE POINT
with a value outside the range of the kind RANGE; nothing changes. -/
def Obligations.UndefinedPointsAreRefused : Prop :=
  ∀ (s : State) (p : Fin 2048) (v : Byte), s.open = true →
    (s.point? p.val = none →
      exec (.deletePoint (BitVec.ofNat 16 p.val)) s = .next (s.sendReply 0x91 .undefined [] false) ∧
      exec (.forcePoint (BitVec.ofNat 16 p.val) v) s = .next (s.sendReply 0x94 .undefined [] false) ∧
      exec (.releasePoint (BitVec.ofNat 16 p.val)) s = .next (s.sendReply 0x95 .undefined [] false) ∧
      exec (.inhibitPoint (BitVec.ofNat 16 p.val)) s = .next (s.sendReply 0x96 .undefined [] false) ∧
      exec (.enablePoint (BitVec.ofNat 16 p.val)) s = .next (s.sendReply 0x97 .undefined [] false)) ∧
    ∀ r, s.point? p.val = some r →
      ((r.kind ≠ .band ∧ 2 ≤ v.toNat) ∨ (r.kind = .band ∧ r.lamps.length < v.toNat)) →
        exec (.forcePoint (BitVec.ofNat 16 p.val) v) s = .next (s.sendReply 0x94 .range [] false)

/-- O25. FORCE POINT stores the forced value, then offers the ADMIN entry of action 3, then hands on a change of
effective value; RELEASE POINT makes it absent, offers the ADMIN entry of action 4 with the live value, and hands on
the change; a RELEASE POINT of a point that is not forced changes nothing. What `settle` hands on is stated in
ChangesAreHandedOn. -/
def Obligations.ForceAndReleaseSetTheForcedValue : Prop :=
  ∀ (s : State) (p : Fin 2048) (r : PointRecord), s.open = true → s.point? p.val = some r →
    (∀ v : Byte, (r.kind ≠ .band → v.toNat ≤ 1) → (r.kind = .band → v.toNat ≤ r.lamps.length) →
      exec (.forcePoint (BitVec.ofNat 16 p.val) v) s =
        .next
          ((((s.catchUp.withPoint p.val { r with forced := some v.toNat }).offer
            ⟨.admin, .host, .point p.val, 3, v, [], some r.sect⟩).settle p.val r.effective).sendReply 0x94 .ok []
              false)) ∧
    (∀ v : Nat, r.forced = some v →
      exec (.releasePoint (BitVec.ofNat 16 p.val)) s =
        .next
          ((((s.catchUp.withPoint p.val { r with forced := none }).offer
            ⟨.admin, .host, .point p.val, 4, (r.live.map byteOf).getD 0xFF, [], some r.sect⟩).settle p.val
              (some v)).sendReply 0x95 .ok [] false)) ∧
    (r.forced = none →
      exec (.releasePoint (BitVec.ofNat 16 p.val)) s = .next (s.sendReply 0x95 .ok [] false))

/-- O26. INHIBIT POINT sets the flag, withdraws an ALARM point (NORMAL, out of the list, HORN derived again) and offers
the ADMIN entry of action 5; ENABLE POINT clears it, offers the entry of action 6, and gives an ALARM point whose
effective value is ACTIVE a new arrival in the list with its ALARM entry. Either changes nothing when the flag already
stands so. -/
def Obligations.InhibitAndEnableMoveTheFlag : Prop :=
  ∀ (s : State) (p : Fin 2048) (r : PointRecord), s.open = true → s.point? p.val = some r →
    (r.inhibited = true → exec (.inhibitPoint (BitVec.ofNat 16 p.val)) s = .next (s.sendReply 0x96 .ok [] false)) ∧
    (r.inhibited = false → exec (.enablePoint (BitVec.ofNat 16 p.val)) s = .next (s.sendReply 0x97 .ok [] false)) ∧
    (r.inhibited = false → r.kind = .alarm →
      exec (.inhibitPoint (BitVec.ofNat 16 p.val)) s =
        .next
          ((((s.catchUp.withPoint p.val { r with inhibited := true, alarm := some .normal }).withList
            (s.alarm.list.filter fun e => e.point != p.val)).offer
            ⟨.admin, .host, .point p.val, 5, (r.effective.map byteOf).getD 0xFF, [], some r.sect⟩).sendReply 0x96 .ok
              [] false)) ∧
    (r.inhibited = false → r.kind ≠ .alarm →
      exec (.inhibitPoint (BitVec.ofNat 16 p.val)) s =
        .next
          (((s.catchUp.withPoint p.val { r with inhibited := true }).offer
            ⟨.admin, .host, .point p.val, 5, (r.effective.map byteOf).getD 0xFF, [], some r.sect⟩).sendReply 0x96 .ok
              [] false)) ∧
    (r.inhibited = true → (r.kind ≠ .alarm ∨ r.effective ≠ some 1) →
      exec (.enablePoint (BitVec.ofNat 16 p.val)) s =
        .next
          (((s.catchUp.withPoint p.val { r with inhibited := false }).offer
            ⟨.admin, .host, .point p.val, 6, (r.effective.map byteOf).getD 0xFF, [], some r.sect⟩).sendReply 0x97 .ok
              [] false)) ∧
    (r.inhibited = true → r.kind = .alarm → r.effective = some 1 →
      exec (.enablePoint (BitVec.ofNat 16 p.val)) s =
        .next
          ((((((s.catchUp.withPoint p.val { r with inhibited := false }).offer
            ⟨.admin, .host, .point p.val, 6, 1, [], some r.sect⟩).withPoint p.val
            { r with inhibited := false, alarm := some .alarmUnack }).withList
            (insertArrival ⟨p.val, r.priority, r.sect, s.cadence.time, r.priority ≤ s.alarm.threshold⟩
              s.alarm.list)).offer ⟨.alarm, .host, .point p.val, 0, 1, [], some r.sect⟩).sendReply 0x97 .ok [] false))

/-- O27. UPDATE POINTS is always answered OK, with the number of updates applied and the position of the first skipped
or 0xFF (R16); the updates are taken in order, each against the record the earlier ones have left. -/
def Obligations.UpdatesAreTakenInOrder : Prop :=
  ∀ (s : State) (us : List Update), s.open = true → 1 ≤ us.length → us.length ≤ 32 →
    let states := us.scanl (fun t u => match t.applies u with | some r => t.applyUpdate u r | none => t) s
    let applied := fun i : Nat => (states[i]?.bind fun t => us[i]?.bind fun u => t.applies u).isSome
    ∃ (last : State) (n : Nat) (x : Byte), states.getLast? = some last ∧
      exec (.updatePoints us) s = .next (last.sendReply 0x93 .ok [byteOf n, x] false) ∧
      n = ((List.range us.length).filter applied).length ∧
      ((∀ i, i < us.length → applied i = true) → x = 0xFF) ∧
      ∀ i, i < us.length → applied i = false → (∀ j, j < i → applied j = true) → x = byteOf i

/-- O28. An update of a defined point within the range of its kind is applied: the live value, then the refresh of the
outstation, then the hand-on of a change; any other is skipped. A change of effective value stamps the last change
time; a STATUS or BAND point offers a CHANGE entry, a non-inhibited ALARM point with a value runs its alarm machine,
any other hands nothing on. Without a change there is nothing of this. -/
def Obligations.ChangesAreHandedOn : Prop :=
  (∀ (s : State) (u : Update),
    (2048 ≤ u.point.toNat ∨ s.point? u.point.toNat = none → s.applies u = none) ∧
    ∀ r, u.point.toNat < 2048 → s.point? u.point.toNat = some r →
      ((r.kind ≠ .band ∧ 2 ≤ u.value.toNat) ∨ (r.kind = .band ∧ r.lamps.length < u.value.toNat) →
        s.applies u = none) ∧
      ((r.kind ≠ .band → u.value.toNat ≤ 1) → (r.kind = .band → u.value.toNat ≤ r.lamps.length) →
        s.applies u = some r ∧
        s.applyUpdate u r =
          ((s.catchUp.withPoint u.point.toNat { r with live := some u.value.toNat }).refresh r.outstation).settle
            u.point.toNat r.effective)) ∧
  ∀ (s : State) (p : Nat) (r : PointRecord) (old : Option Nat), s.point? p = some r →
    (r.effective = old → s.settle p old = s) ∧
    (r.effective ≠ old →
      let q := { r with lastChange := some s.cadence.time }
      (r.kind ≠ .alarm →
        s.settle p old =
          (s.withPoint p q).offer
            ⟨.change, .host, .point p, (old.map byteOf).getD 0xFF, (r.effective.map byteOf).getD 0xFF, [],
              some r.sect⟩) ∧
      (r.kind = .alarm → (r.inhibited = true ∨ r.effective = none) → s.settle p old = s.withPoint p q) ∧
      ∀ v, r.kind = .alarm → r.inhibited = false → r.effective = some v →
        s.settle p old = (s.withPoint p q).valueChange p q (v == 1))

/-! ### Alarms -/

/-- O29. A value change moves the alarm state, the list and the journal as Table 2-2 gives: a new arrival is marked by
the threshold, a ring-back arrival has no mark, a re-activation sets the mark if its priority sounds; the "no change"
cells change nothing. A new arrival stands after every entry of a priority number not greater than its own and before the
first of a greater one (R34). -/
def Obligations.ValueChangeFollowsItsTable : Prop :=
  (∀ (e : AnnEntry) (list : List AnnEntry),
    ∃ front back : List AnnEntry, list = front ++ back ∧ insertArrival e list = front ++ e :: back ∧
      (∀ x ∈ front, x.priority ≤ e.priority) ∧ ∀ x, back.head? = some x → e.priority < x.priority) ∧
  ∀ (s : State) (p : Nat) (r : PointRecord) (a : AlarmState), r.alarm = some a →
    let moved := fun b : AlarmState => s.withPoint p { r with alarm := some b }
    let told := fun (t : State) (old new : Byte) =>
      t.offer ⟨.alarm, .host, .point p, old, new, [], some r.sect⟩
    let arrival := fun mark : Bool =>
      insertArrival ⟨p, r.priority, r.sect, s.cadence.time, mark⟩ s.alarm.list
    (a = .normal →
      s.valueChange p r true =
        told ((moved .alarmUnack).withList (arrival (r.priority ≤ s.alarm.threshold))) 0 1 ∧
      s.valueChange p r false = s) ∧
    (a = .alarmUnack →
      s.valueChange p r true = s ∧ s.valueChange p r false = told (moved .clearedUnack) 1 3) ∧
    (a = .alarmAck →
      s.valueChange p r true = s ∧
      (r.ringBack = true → s.valueChange p r false = told ((moved .clearedUnack).withList (arrival false)) 2 3) ∧
      (r.ringBack = false → s.valueChange p r false = told (moved .normal) 2 0)) ∧
    (a = .clearedUnack →
      s.valueChange p r false = s ∧
      (r.priority ≤ s.alarm.threshold →
        s.valueChange p r true =
          told
            ((moved .alarmUnack).withList
              (s.alarm.list.map fun e => if e.point = p then { e with mark := true } else e)) 3 1) ∧
      (s.alarm.threshold < r.priority → s.valueChange p r true = told (moved .alarmUnack) 3 1))

/-- O30. ACKNOWLEDGE checks its scope in the order of Table 2-6 and acknowledges, from the head, every entry it covers,
answering with their count. -/
def Obligations.AcknowledgeCoversItsScope : Prop :=
  ∀ (s : State) (h : Half), s.open = true →
    (∀ p : Fin 2048, s.point? p.val = none →
      exec (.acknowledge 0 (BitVec.ofNat 16 p.val)) s = .next (s.sendReply 0xA0 .undefined [] false)) ∧
    (∀ (p : Fin 2048) (r : PointRecord), s.point? p.val = some r → r.kind ≠ .alarm →
      exec (.acknowledge 0 (BitVec.ofNat 16 p.val)) s = .next (s.sendReply 0xA0 .kind [] false)) ∧
    (∀ (p : Fin 2048) (r : PointRecord), s.point? p.val = some r → r.kind = .alarm →
      (∀ e ∈ s.alarm.list, e.point ≠ p.val) →
        exec (.acknowledge 0 (BitVec.ofNat 16 p.val)) s = .next (s.sendReply 0xA0 .notPending [] false)) ∧
    (∀ (p : Fin 2048) (r : PointRecord) (e : AnnEntry), s.point? p.val = some r → r.kind = .alarm →
      s.alarm.list.find? (fun e => e.point == p.val) = some e →
        exec (.acknowledge 0 (BitVec.ofNat 16 p.val)) s =
          .next ((State.acknowledgeEntry .host s.catchUp e).sendReply 0xA0 .ok (halfBytes 1) false)) ∧
    (∀ k : Fin 16,
      let covered := s.alarm.list.filter fun e => e.sect == k
      (covered = [] →
        exec (.acknowledge 1 (BitVec.ofNat 16 k.val)) s = .next (s.sendReply 0xA0 .ok (halfBytes 0) false)) ∧
      (covered ≠ [] →
        exec (.acknowledge 1 (BitVec.ofNat 16 k.val)) s =
          .next
            ((covered.foldl (State.acknowledgeEntry .host) s.catchUp).sendReply 0xA0 .ok (halfBytes covered.length)
              false))) ∧
    (s.alarm.list = [] →
      exec (.acknowledge 2 h) s = .next (s.sendReply 0xA0 .ok (halfBytes 0) false) ∧
      exec (.acknowledge 3 h) s = .next (s.sendReply 0xA0 .ok (halfBytes 0) false)) ∧
    ∀ e rest, s.alarm.list = e :: rest →
      exec (.acknowledge 2 h) s =
        .next
          (((e :: rest).foldl (State.acknowledgeEntry .host) s.catchUp).sendReply 0xA0 .ok
            (halfBytes (rest.length + 1)) false) ∧
      exec (.acknowledge 3 h) s =
        .next ((State.acknowledgeEntry .host s.catchUp e).sendReply 0xA0 .ok (halfBytes 1) false)

/-- O31. Acknowledging an entry takes ALARM_UNACK to ALARM_ACK and CLEARED_UNACK to NORMAL, removes the point's entry,
derives HORN again and offers one ACK entry, in this order; an entry whose point is in neither state changes nothing. -/
def Obligations.AcknowledgementMovesTheState : Prop :=
  ∀ (source : Source) (s : State) (e : AnnEntry) (r : PointRecord), s.point? e.point = some r →
    let left := s.alarm.list.filter fun x => x.point != e.point
    (r.alarm = some .alarmUnack →
      State.acknowledgeEntry source s e =
        ((s.withPoint e.point { r with alarm := some .alarmAck }).withList left).offer
          ⟨.ack, source, .point e.point, 1, 2, [], some r.sect⟩) ∧
    (r.alarm = some .clearedUnack →
      State.acknowledgeEntry source s e =
        ((s.withPoint e.point { r with alarm := some .normal }).withList left).offer
          ⟨.ack, source, .point e.point, 3, 0, [], some r.sect⟩) ∧
    (r.alarm ≠ some .alarmUnack → r.alarm ≠ some .clearedUnack → State.acknowledgeEntry source s e = s)

/-- O32. SILENCE clears every mark, derives HORN again, leaves the entries and their order, offers one OPERATOR entry
with the number of marks cleared, 255 at most, and answers with the number. -/
def Obligations.SilenceClearsEveryMark : Prop :=
  ∀ s : State, s.open = true →
    let marks := (s.alarm.list.filter fun e => e.mark).length
    exec .silence s =
      .next
        (((s.withList (s.alarm.list.map fun e => { e with mark := false })).offer
          ⟨.operator, .host, .none, 1, byteOf (min 255 marks), [], none⟩).sendReply 0xA1 .ok (halfBytes marks) false) ∧
    (s.withList (s.alarm.list.map fun e => { e with mark := false })).alarm.horn = .quiet

/-- O33. HORN is the first row of Table 2-8 that applies, and QUIET while RESET is asserted; a PULSED horn follows the
FAST phase. An event that changes the list sets it so. -/
def Obligations.HornFollowsItsTable : Prop :=
  (∀ (device : DeviceMode) (list : List AnnEntry), hornOf true device list = .quiet) ∧
  (∀ list : List AnnEntry,
    hornOf false .offline list = .quiet ∧
    ((∃ e ∈ list, e.mark = true ∧ e.priority = 0) → hornOf false .online list = .steady) ∧
    ((∀ e ∈ list, e.mark = true → e.priority ≠ 0) → (∃ e ∈ list, e.mark = true) →
      hornOf false .online list = .pulsed) ∧
    ((∀ e ∈ list, e.mark = false) → hornOf false .online list = .quiet)) ∧
  (∀ phase : Phase, hornSignal .quiet phase = false ∧ hornSignal .steady phase = true ∧
    (hornSignal .pulsed phase = true ↔ phase = .lit)) ∧
  ∀ (s : State) (list : List AnnEntry), (s.withList list).HornDerived ∧ (s.withList list).alarm.list = list ∧
    (s.withList list).alarm.threshold = s.alarm.threshold ∧ s.withList list = { s with alarm := (s.withList list).alarm }


/-! ### The operator desk and the lamp test -/

/-- O34. SET DESK CONTROL stores the enable flag and the period. Disabling an enabled desk ends the desk hold, with an
OPERATOR entry when that ends the lamp test; a new period loads the sample timer and restarts every filter at its
level, an equal period touches none of them. The reply carries the flag, the period and the filtered levels. -/
def Obligations.DeskControlIsStored : Prop :=
  ∀ (s : State) (e : Bool) (p : Nat), s.open = true → (p = 1 ∨ p = 4 ∨ p = 16) →
    let d : DeskUnit := { s.desk with enabled := e }
    let restarted : DeskUnit :=
      { d with
        period := p
        timer := .counting p
        ack := ⟨d.ack.level, none, 0⟩
        silence := ⟨d.silence.level, none, 0⟩
        lampTest := ⟨d.lampTest.level, none, 0⟩
        allSections := ⟨d.allSections.level, none, 0⟩
        selector := ⟨d.selector.level, none, 0⟩ }
    let disabled := s.desk.enabled && !e
    exec (.setDeskControl (flagByte e) (byteOf p)) s =
      .next
        (({ s with
            desk := if p = s.desk.period then d else restarted
            mode := { s.mode with deskHold := s.mode.deskHold && !disabled }
            journal :=
              if disabled && s.mode.deskHold && !s.mode.hostTimer.runs then
                (s.offer ⟨.operator, .host, .none, 2, 0, [], none⟩).journal
              else s.journal } : State).sendReply 0xA4 .ok
          [flagByte e, byteOf p, flagByte s.desk.ack.level, flagByte s.desk.silence.level,
            flagByte s.desk.lampTest.level, flagByte s.desk.allSections.level, byteOf s.desk.selector.level.val]
          false)

/-- O35. A sample steps the filters as Table 3-3 and R54 give and loads the timer with the period. ONLINE with the desk
enabled it hands on, in this order, an ACK press (the entries of the section of the selector, or all with the switch
ON), a SILENCE press, and a LAMP TEST press or release; otherwise it hands on nothing. A sample that is not due is
dropped (log entry 6). -/
def Obligations.SamplesAreFilteredAndHandedOn : Prop :=
  (∀ (f : Machine.Filter Bool) (x : Bool), f.Lawful →
    (x = f.level → f.step x = ⟨f.level, none, 0⟩) ∧
    (x ≠ f.level → f.count = 0 → f.step x = ⟨f.level, some x, 1⟩) ∧
    (x ≠ f.level → f.count = 1 → f.step x = ⟨f.level, some x, 2⟩) ∧
    (x ≠ f.level → f.count = 2 → f.step x = ⟨x, none, 0⟩)) ∧
  (∀ (f : Machine.Filter (Fin 16)) (x : Fin 16),
    (x = f.level → f.step x = ⟨f.level, none, 0⟩) ∧
    (x ≠ f.level → f.candidate = some x → f.count < 2 → f.step x = ⟨f.level, some x, f.count + 1⟩) ∧
    (x ≠ f.level → f.candidate = some x → f.count = 2 → f.step x = ⟨x, none, 0⟩) ∧
    (x ≠ f.level → f.candidate ≠ some x → f.step x = ⟨f.level, some x, 1⟩)) ∧
  ∀ (s : State) (pins : DeskPins), s.takesExpiries = true →
    (s.desk.timer ≠ .expired → exec (.deskSample pins) s = .next s) ∧
    (s.desk.timer = .expired →
      let value : Fin 16 :=
        (if pins.sel0 then 1 else 0) + (if pins.sel1 then 2 else 0) + (if pins.sel2 then 4 else 0) +
          (if pins.sel3 then 8 else 0)
      let d : DeskUnit :=
        { s.desk with
          pins := pins
          timer := .counting s.desk.period
          ack := s.desk.ack.step (!pins.ack)
          silence := s.desk.silence.step (!pins.silence)
          lampTest := s.desk.lampTest.step (!pins.lampTest)
          allSections := s.desk.allSections.step (!pins.allSections)
          selector := s.desk.selector.step value }
      let a : State := { s with desk := d }
      ((s.mode.device = .offline ∨ s.desk.enabled = false) → exec (.deskSample pins) s = .next a) ∧
      (s.mode.device = .online → s.desk.enabled = true →
        let covered :=
          if d.allSections.level then s.alarm.list
          else s.alarm.list.filter fun e => e.sect == d.selector.level
        let b :=
          if !s.desk.ack.level && d.ack.level && !covered.isEmpty then
            covered.foldl (State.acknowledgeEntry .desk) a.catchUp
          else a
        let marks := (b.alarm.list.filter fun e => e.mark).length
        let c :=
          if !s.desk.silence.level && d.silence.level then
            (b.withList (b.alarm.list.map fun e => { e with mark := false })).offer
              ⟨.operator, .desk, .none, 1, byteOf (min 255 marks), [], none⟩
          else b
        let hold := if s.desk.lampTest.level = d.lampTest.level then s.mode.deskHold else d.lampTest.level
        let moved : State := { c with mode := { s.mode with deskHold := hold } }
        exec (.deskSample pins) s =
          .next
            (if (s.mode.hostTimer.runs || s.mode.deskHold) = (s.mode.hostTimer.runs || hold) then moved
            else moved.offer ⟨.operator, .desk, .none, 2, flagByte hold, [], none⟩)))

/-- O36. LAMP TEST is refused with MODE while OFFLINE, and otherwise stops or loads the host timer as Table 10-2 gives;
the host timer's expiry stops it. Either offers one OPERATOR entry exactly when the lamp-test state changes, and changes
nothing else. An expiry that is not due is dropped (log entry 6), and a timer whose expiry is due reads as 1 tick (log
entry 15). -/
def Obligations.LampTestFollowsItsTable : Prop :=
  (∀ (s : State) (d : Nat), s.open = true → d ≤ 60 →
    (s.mode.device = .offline → exec (.lampTest (byteOf d)) s = .next (s.sendReply 0xB3 .mode [] false)) ∧
    (s.mode.device = .online →
      let timer : Timer := if d = 0 then .stopped 0 else .counting (max s.mode.hostTimer.left (d * 1000))
      let was := s.mode.hostTimer.runs || s.mode.deskHold
      let now := timer.runs || s.mode.deskHold
      exec (.lampTest (byteOf d)) s =
        .next
          (({ s with
              mode := { s.mode with hostTimer := timer }
              journal :=
                if was = now then s.journal
                else (s.offer ⟨.operator, .host, .none, 2, flagByte now, [], none⟩).journal } : State).sendReply 0xB3
            .ok [flagByte now, flagByte s.mode.deskHold, byteOf ((timer.left + 999) / 1000)] false))) ∧
  ∀ s : State, s.takesExpiries = true →
    (s.mode.hostTimer ≠ .expired → exec .hostTimerExpiry s = .next s) ∧
    (s.mode.hostTimer = .expired →
      exec .hostTimerExpiry s =
        .next
          { s with
            mode := { s.mode with hostTimer := .stopped 0 }
            journal :=
              if s.mode.deskHold then s.journal
              else (s.offer ⟨.operator, .host, .none, 2, 0, [], none⟩).journal })

/-! ### Time base and cadence generators -/

/-- O37. A tick raises the time counter by one, which wraps, steps the prescale counter of every RUNNING generator and
lowers the sample timer, both frame timers, the supervision countdowns, the host timer and the gap timer; the reply in
transmission is lowered by what the bit rate sends in a tick and ends at the tick after its last bits, but for the reply
to RESET (log entry 8); nothing else changes. A timer loaded with `n` expires at its `n`-th tick, the gap timer at the
tick after. Expiries of the tick before that no command has taken are taken first, and a service that is due (the model's
choice, log entries 4 and 24). -/
def Obligations.TickIsHandedToEveryTimer : Prop :=
  (∀ n k : Nat, 1 ≤ n →
    (k < n → Nat.iterate Timer.tick k (.counting n) = .counting (n - k)) ∧
    Nat.iterate Timer.tick n (.counting n) = .expired) ∧
  (∀ n k : Nat,
    (k ≤ n → Nat.iterate Timer.tickGap k (.counting n) = .counting (n - k)) ∧
    Nat.iterate Timer.tickGap (n + 1) (.counting n) = .expired) ∧
  (∀ h : Nat, (Timer.stopped h).tick = .stopped h ∧ (Timer.stopped h).tickGap = .stopped h) ∧
  (∀ (rate k : Nat) (r : Reply),
    let sent := Nat.iterate (fun x : Option Reply => x.bind (Reply.tick rate)) k (some r)
    ((r.ofReset = true ∨ k = 0 ∨ (k - 1) * rate < r.left) → sent = some { r with left := r.left - k * rate }) ∧
    (r.ofReset = false → 1 ≤ k → r.left ≤ (k - 1) * rate → sent = none)) ∧
  ∀ s : State, s.attends = true →
    exec .tick s = .next s.beforeTick.countTick ∧
    (s.settled = true →
      let step := fun x : CadenceGenerator =>
        if x.running then { x with prescaleCounter := x.prescaleCounter.tick } else x
      exec .tick s =
        .next
          { s with
            cadence := ⟨s.cadence.time + 1, step s.cadence.fast, step s.cadence.slow, step s.cadence.wink⟩
            desk := { s.desk with timer := s.desk.timer.tick }
            loopA := { s.loopA with timer := s.loopA.timer.tick }
            loopB := { s.loopB with timer := s.loopB.timer.tick }
            supervision :=
              { link := { s.supervision.link with countdown := s.supervision.link.countdown.tick }
                outstations := s.supervision.outstations.map fun o => { o with countdown := o.countdown.tick } }
            mode := { s.mode with hostTimer := s.mode.hostTimer.tick }
            link :=
              { s.link with
                gap := s.link.gap.tickGap
                reply := s.link.reply.bind (Reply.tick (bitRate s.straps)) } })

/-- O38. At a tick a RUNNING generator lowers a prescale counter above 1; at 1 it expires, and the expiry loads it with
the reload value as it stands and makes one cadence tick. A STOPPED generator is not stepped. At its phase counter's
expiry the phase toggles, the counter takes the length of the new phase as it stands, and FAST alone is handed to the
Alarm Unit. `x` is the generator as the tick finds it, with what was due before taken; that the tick marks an expiry and
its own command takes it is the model's (log entry 4), and an expiry or toggle that is not due is dropped (log entry
6). -/
def Obligations.GeneratorsStepAndToggle : Prop :=
  (∀ n k : Nat, 1 ≤ n →
    (k < n → Nat.iterate Timer.tick k (.counting n) = .counting (n - k)) ∧
    Nat.iterate Timer.tick n (.counting n) = .expired) ∧
  (∀ (s : State) (g : Generator), s.inReset = false →
    let x := s.atOnce.beforeTick.cadence.generator g
    ∃ t, exec .tick s = .next t ∧
      (x.running = false → t.cadence.generator g = x) ∧
      (∀ n, x.running = true → x.prescaleCounter = .counting n → 2 ≤ n →
        t.cadence.generator g = { x with prescaleCounter := .counting (n - 1) }) ∧
      (x.running = true → x.prescaleCounter = .counting 1 →
        exec (.prescaleExpiry g) t =
          .next
            { t with
              cadence :=
                t.cadence.withGenerator g
                  { x with
                    prescaleCounter := .counting x.prescaleReload, phaseCounter := x.phaseCounter.tick } })) ∧
  (∀ (s : State) (g : Generator), s.takesExpiries = true →
    let x := s.cadence.generator g
    ((x.running = false ∨ x.prescaleCounter ≠ .expired) → exec (.prescaleExpiry g) s = .next s) ∧
    (x.running = true → x.prescaleCounter = .expired →
      exec (.prescaleExpiry g) s =
        .next
          { s with
            cadence :=
              s.cadence.withGenerator g
                { x with prescaleCounter := .counting x.prescaleReload, phaseCounter := x.phaseCounter.tick } })) ∧
  ∀ (s : State) (g : Generator), s.inReset = false → s.passDue = false →
    let x := s.cadence.generator g
    ((x.running = false ∨ x.phaseCounter ≠ .expired) → exec (.phaseToggle g) s = .next s) ∧
    (x.running = true → x.phaseCounter = .expired →
      let y : CadenceGenerator :=
        match x.phase with
        | .lit => { x with phase := .dark, phaseCounter := .counting x.darkReload }
        | .dark => { x with phase := .lit, phaseCounter := .counting x.litReload }
      (g ≠ .fast → exec (.phaseToggle g) s = .next { s with cadence := s.cadence.withGenerator g y }) ∧
      (g = .fast →
        exec (.phaseToggle g) s =
          .next
            { s with
              cadence := { s.cadence with fast := y }
              alarm :=
                { s.alarm with
                  horn := hornOf false s.mode.device s.alarm.list
                  hornPin := hornSignal (hornOf false s.mode.device s.alarm.list) y.phase } }))

/-- O39. SET CADENCE writes the three reload values of the generator it names; a RUNNING generator told to run keeps its
counters and its phase, any other takes the run state, the phase LIT and both counters loaded. FAST is handed to the
Alarm Unit. The reply carries the generator as the request has left it, a counter whose expiry is due as 1 (log
entry 15). -/
def Obligations.SetCadenceWritesOneGenerator : Prop :=
  ∀ (s : State) (g : Generator) (prescale : Half) (lit dark : Byte) (run : Bool), s.open = true →
    1 ≤ prescale.toNat → prescale.toNat ≤ 256 → 1 ≤ lit.toNat → 1 ≤ dark.toNat →
    let code : Byte := if g = .fast then 0 else if g = .slow then 1 else 2
    let x : CadenceGenerator :=
      { s.cadence.generator g with
        prescaleReload := prescale.toNat, litReload := lit.toNat, darkReload := dark.toNat }
    let y : CadenceGenerator :=
      if x.running && run then x
      else
        { x with
          running := run
          phase := .lit
          prescaleCounter := .counting prescale.toNat
          phaseCounter := .counting lit.toNat }
    let u : State :=
      { s with
        cadence := s.cadence.withGenerator g y
        alarm :=
          if g = .fast then
            { s.alarm with
              horn := hornOf false s.mode.device s.alarm.list
              hornPin := hornSignal (hornOf false s.mode.device s.alarm.list) y.phase }
          else s.alarm }
    exec (.setCadence code prescale lit dark (flagByte run)) s =
      .next
        (u.sendReply 0xB8 .ok
          ([code] ++ halfBytes prescale.toNat ++
            [lit, dark, flagByte y.running, byteOf y.phase.code] ++
            halfBytes y.prescaleCounter.left ++ [byteOf y.phaseCounter.left])
          false)

/-! ### The display path -/

/-- O40. The base appearances of STATUS, ALARM and BAND lamps (R91 to R93), the change for STALE, the order of Table 5-2
and the flag of Table 5-5. -/
def Obligations.AppearanceFollowsItsTables : Prop :=
  (∀ r : PointRecord, r.kind = .status →
    (r.effective = some 1 → r.baseAppearance 0 = .steady ∧ r.baseAppearance 1 = .off) ∧
    (r.effective = some 0 → r.baseAppearance 0 = .off ∧ r.baseAppearance 1 = .steady)) ∧
  (∀ (r : PointRecord) (i : Nat), r.kind = .alarm →
    (r.inhibited = true → r.baseAppearance i = .off) ∧
    (r.inhibited = false →
      (r.alarm = some .normal → r.baseAppearance i = .off) ∧
      (r.alarm = some .alarmUnack → r.baseAppearance i = .fast) ∧
      (r.alarm = some .alarmAck → r.baseAppearance i = .steady) ∧
      (r.alarm = some .clearedUnack → r.baseAppearance i = .slow))) ∧
  (∀ (r : PointRecord) (i v : Nat), r.kind = .band → r.effective = some v →
    (i < v → r.baseAppearance i = .steady) ∧ (v ≤ i → r.baseAppearance i = .off)) ∧
  (Appearance.steady.stale = .wink ∧ Appearance.off.stale = .off ∧ Appearance.fast.stale = .fast ∧
    Appearance.slow.stale = .slow) ∧
  (∀ p : Pass, p.flagOf .off = false ∧ p.flagOf .steady = true ∧ (p.flagOf .fast = true ↔ p.fast = .lit) ∧
    (p.flagOf .slow = true ↔ p.slow = .lit) ∧ (p.flagOf .wink = true ↔ p.wink = .lit)) ∧
  ∀ (s : State) (lamp : Nat), s.appearance true lamp = .steady ∧
    (s.points.owners.get? lamp = none → s.appearance false lamp = .off) ∧
    ∀ (p : Nat) (r : PointRecord), s.points.owners.get? lamp = some p → s.point? p = some r →
      (s.supervision.quality r = .awaiting → s.appearance false lamp = .off) ∧
      ∀ (i : Nat) (n : Fin 4096), r.lamps.Nodup → r.lamps[i]? = some n → n.val = lamp →
        (s.supervision.quality r = .stale → s.appearance false lamp = (r.baseAppearance i).stale) ∧
        ((s.supervision.quality r = .good ∨ s.supervision.quality r = .forced) →
          s.appearance false lamp = r.baseAppearance i)

/-- O41. A pass starts for the WAITING loop that R84 gives, with its samples: the only one, the one whose request came
first to the IDLE composer (`elected`, log entry 4), or of two the one not served last. A request is made only by a
loop that has none outstanding; leaving RUNNING withdraws a WAITING one, and becoming STOPPED marks a pass in flight
discarded as well. A pass start that is not due is dropped (log entry 6). -/
def Obligations.PassesAreArbitrated : Prop :=
  (∀ (s : State), s.inReset = false →
    ((s.composer.pass ≠ none ∨ (s.composer.requestA ≠ .waiting ∧ s.composer.requestB ≠ .waiting)) →
      exec .passStart s = .next s) ∧
    ∀ l : Loop, s.composer.pass = none → s.composer.request l = .waiting →
      (s.composer.request (otherLoop l) ≠ .waiting ∨ s.composer.elected = some l ∨
        (s.composer.elected = none ∧ s.composer.lastServed = otherLoop l)) →
      exec .passStart s =
        .next
          { s with composer :=
            { s.composer.withRequest l .inFlight with
              pass := some
                { loop := l
                  discarded := false
                  fast := s.cadence.fast.phase
                  slow := s.cadence.slow.phase
                  wink := s.cadence.wink.phase
                  lampTest := s.mode.hostTimer.runs || s.mode.deskHold
                  intensity := s.intensity
                  position := 0
                  flags := (s.loop l).back.flags }
              lastServed := l
              elected := none } }) ∧
  ∀ (c : Composer) (l : Loop),
    (c.request l ≠ .none → c.ask l = c) ∧
    (c.request l = .none →
      (c.ask l).request l = .waiting ∧ (c.ask l).request (otherLoop l) = c.request (otherLoop l) ∧
      (c.ask l).pass = c.pass ∧ (c.ask l).lastServed = c.lastServed ∧
      (c.pass = none → c.elected = none → (c.ask l).elected = some l)) ∧
    (c.request l ≠ .waiting → c.withdraw l = c) ∧
    (c.request l = .waiting →
      (c.withdraw l).request l = .none ∧ (c.withdraw l).request (otherLoop l) = c.request (otherLoop l) ∧
      (c.withdraw l).pass = c.pass ∧ (c.withdraw l).lastServed = c.lastServed ∧ c.drop l = c.withdraw l) ∧
    (c.request l = .none → c.drop l = c) ∧
    (c.request l = .inFlight →
      c.drop l = { c.withRequest l .none with pass := c.pass.map fun p => { p with discarded := true } })

/-- O42. A pass that completes gives every lamp that it had not composed its flag from the part as it stands, and those
composed before keep theirs. One that is not discarded gives the back image its sampled intensity, the mark COMPLETE and
its loop an end of its request; a discarded one marks nothing. The next pass is fixed as R84 gives, and stands as
`elected` until it starts (log entry 4). A completion with no pass in flight is dropped (log entry 6), and the flags a
pass has written stand with the pass until its completion (log entry 10). Before what a pass reads is changed the pass
comes as far as the free value says, whatever that is (log entry 5). -/
def Obligations.PassesComposeEveryLamp : Prop :=
  (∀ s : State, s.attends = true →
    (s.composer.pass = none → exec .passCompletion s = .next s) ∧
    ∀ p : Pass, s.composer.pass = some p →
      let c := if p.discarded then s.composer else s.composer.withRequest p.loop .none
      ∃ (image : Bank 32 Flags) (elected : Option Loop),
        (∀ (slot : Fin 32) (o : Fin 64),
          (image.get slot).getLsbD o.val =
            if slot.val * 64 + o.val < p.position then (p.flags.get slot).getLsbD o.val
            else p.flagOf (s.appearance p.lampTest (loopIndex p.loop * 2048 + slot.val * 64 + o.val))) ∧
        (c.requestA ≠ .waiting → c.requestB ≠ .waiting → elected = none) ∧
        (∀ l, c.request l = .waiting → (c.request (otherLoop l) ≠ .waiting ∨ c.lastServed = otherLoop l) →
          elected = some l) ∧
        exec .passCompletion s =
          .next
            { s.withLoop p.loop
                { s.loop p.loop with
                  back := ⟨image, if p.discarded then (s.loop p.loop).back.intensity else p.intensity⟩
                  backComplete := if p.discarded then (s.loop p.loop).backComplete else true } with
              composer := { c with pass := none, elected := elected } }) ∧
  ∀ s : State,
    (s.composer.pass = none → s.catchUp = s) ∧
    ∀ p : Pass, s.composer.pass = some p →
      ∃ image : Bank 32 Flags,
        let k := min 2048 (p.position + Config.passProgress s.freeIndex)
        (∀ (slot : Fin 32) (o : Fin 64),
          (image.get slot).getLsbD o.val =
            if p.position ≤ slot.val * 64 + o.val ∧ slot.val * 64 + o.val < k then
              p.flagOf (s.appearance p.lampTest (loopIndex p.loop * 2048 + slot.val * 64 + o.val))
            else (p.flags.get slot).getLsbD o.val) ∧
        s.catchUp =
          { s with
            composer := { s.composer with pass := some { p with position := k, flags := image } }
            freeIndex := s.freeIndex + 1 }

/-! ### Panel loops and tiles -/

/-- O43. A frame timer's expiry makes a frame start pending, and with no frame in transfer FRAME_START takes it at once, before
any other command (log entry 4). A NORMAL frame start latches the map, brings every tile in
step with it and offers their TILE entries, swaps a COMPLETE back image to the front and asks for a new pass, or repeats
the front image and sets REPEAT, and sends the header and the first slot word. The TILE entries come in ascending slot
order (log entry 16). An expiry or a frame start that is not due is dropped (log entry 6). -/
def Obligations.NormalFramesStart : Prop :=
  (∀ (f : Flags) (k j : Nat), k < 8 → j < 8 →
    ∃ b : Byte, (flagBytes f)[k]? = some b ∧ b.getLsbD j = f.getLsbD (8 * k + j)) ∧
  (∀ (s : State) (l : Loop), s.takesExpiries = true →
    let c := s.loop l
    ((c.timer ≠ .expired ∨ c.startPending = true) → exec (.frameTimerExpiry l) s = .next s) ∧
    (c.timer = .expired → c.startPending = false →
      exec (.frameTimerExpiry l) s = .next (s.withLoop l { c with startPending := true }))) ∧
  ∀ (s : State) (l : Loop), s.inReset = false → s.passDue = false →
    let c := s.loop l
    ((c.startPending = false ∨ c.transfer ≠ none ∨ c.state = .stopped ∨ c.state = .stopping) →
      exec (.frameStart l) s = .next s) ∧
    (c.startPending = true → c.transfer = none → c.state = .running →
      let front := if c.backComplete then c.back else c.front
      let stepped := fun slot : Fin 32 =>
        let t := c.tiles.get slot
        if t.enabled = true ∧ t.state = .disabled then { t with state := .joining }
        else if t.enabled = false ∧ t.state ≠ .disabled then
          { t with state := .disabled, missStreak := 0, replyStreak := 0, driveFault := false }
        else t
      let slots := (List.finRange 32).filter fun slot => (c.tiles.get slot).enabled
      let changed := (List.finRange 32).filter fun slot => stepped slot ≠ c.tiles.get slot
      let code := fun t : Tile => byteOf (t.state.code + if t.driveFault then 16 else 0)
      exec (.frameStart l) s =
        .next
          { s.withLoop l
              { c with
                startPending := false
                timer := .counting c.period
                latched := Bank.make fun slot =>
                  if (c.tiles.get slot).enabled then some (c.tiles.get slot).size else none
                tiles := Bank.make stepped
                front := front
                back := if c.backComplete then c.front else c.back
                backComplete := false
                repeated := !c.backComplete
                thisReply := Bank.fill 32 false
                transfer := some ⟨.normal, front.intensity, slots⟩
                line := [0x7E, 0, byteOf front.intensity.val] ++
                  match slots with
                  | [] => []
                  | slot :: _ => byteOf slot.val :: flagBytes (front.flags.get slot) } with
            composer := if c.backComplete then s.composer.ask l else s.composer
            journal :=
              (changed.foldl
                (fun t slot =>
                  t.offer
                    ⟨.tile, loopSource l, .tile l slot, code (c.tiles.get slot), code (stepped slot), [], none⟩)
                s).journal })

/-- O44. The characters of a reply window are a valid reply exactly when eleven came, the first is the marker and every
stop bit was HIGH, with the fields of Table 11-12. At a slot end the next slot word goes out and a valid reply is
recorded; in a RUNNING loop the tile then moves, a changed state or drive-fault flag offers one TILE entry, and the slot
end goes to the Proving Unit; in a STOPPING loop nothing more is done. Characters after the eleventh are no part of the
reply (log entry 14). With no slot in transfer the event is dropped (log entry 6). -/
def Obligations.SlotEndsAreCarriedOn : Prop :=
  (∀ window : List RxChar,
    (window.length < 11 ∨ window.head?.map RxChar.byte ≠ some 0x3C ∨ ∃ c ∈ window.take 11, c.stopOk = false) →
      tileReplyOf window = none) ∧
  (∀ window : List RxChar, 11 ≤ window.length → window.head?.map RxChar.byte = some 0x3C →
    (∀ c ∈ window.take 11, c.stopOk = true) →
    ∃ (size status : RxChar) (r : TileReply), window[1]? = some size ∧ window[2]? = some status ∧
      tileReplyOf window = some r ∧ r.size = TileSize.ofCode size.byte ∧ r.driveFault = status.byte.getLsbD 0 ∧
      ∀ k j, k < 8 → j < 8 →
        ∃ c : RxChar, window[3 + k]? = some c ∧ r.sense.getLsbD (8 * k + j) = c.byte.getLsbD j) ∧
  (TileSize.ofCode 16 = some .s16 ∧ TileSize.ofCode 32 = some .s32 ∧ TileSize.ofCode 64 = some .s64 ∧
    ∀ v : Byte, v ≠ 16 → v ≠ 32 → v ≠ 64 → TileSize.ofCode v = none) ∧
  ∀ (s : State) (l : Loop) (window : List RxChar), s.attends = true →
    let c := s.loop l
    let reply := tileReplyOf window
    (c.transfer = none → exec (.slotEnd l window) s = .next s) ∧
    (∀ t, c.transfer = some t → t.remaining = [] → exec (.slotEnd l window) s = .next s) ∧
    ∀ (t : Transfer) (slot : Fin 32) (rest : List (Fin 32)), c.transfer = some t → t.remaining = slot :: rest →
      let ended : LoopController :=
        { c with
          transfer := some { t with remaining := rest }
          line :=
            match rest with
            | [] => []
            | next :: _ =>
              byteOf next.val :: flagBytes
                (match t.kind with
                | .normal => c.front.flags.get next
                | .test => testPattern (s.mode.test.frames l))
          thisReply := if reply.isSome then c.thisReply.put slot true else c.thisReply }
      (c.state = .stopping → exec (.slotEnd l window) s = .next (s.withLoop l ended)) ∧
      (c.state = .running →
        let old := c.tiles.get slot
        let new := old.afterSlot reply (c.latched.get slot)
        let code := fun t : Tile => byteOf (t.state.code + if t.driveFault then 16 else 0)
        let moved := s.withLoop l { ended with tiles := c.tiles.put slot new }
        let told :=
          if old.state = new.state ∧ old.driveFault = new.driveFault then moved
          else moved.offer ⟨.tile, loopSource l, .tile l slot, code old, code new, [], none⟩
        exec (.slotEnd l window) s =
          .next
            (told.compareSlot
              ⟨l, slot, reply, c.latched.get slot, old.state, new.state, c.prevReply.get slot,
                c.previous.get slot⟩))

/-- O45. Tiles move at a slot end as Table 6-4 gives and take the drive-fault flag of a valid reply (R114). -/
def Obligations.TilesFollowTheirTable : Prop :=
  (∀ t : Tile, (t.state = .joining ∨ t.state = .present ∨ t.state = .mismatched) →
    t.slotMove (some true) = { t with state := .present, missStreak := 0 } ∧
    t.slotMove (some false) = { t with state := .mismatched, missStreak := 0 } ∧
    (t.missStreak ≠ 2 → t.slotMove none = { t with missStreak := t.missStreak + 1 }) ∧
    (t.missStreak = 2 → t.slotMove none = { t with state := .absent, missStreak := 0 })) ∧
  (∀ t : Tile, t.state = .absent →
    t.slotMove none = { t with replyStreak := 0 } ∧
    (∀ right, t.replyStreak ≠ 2 → t.slotMove (some right) = { t with replyStreak := t.replyStreak + 1 }) ∧
    (t.replyStreak = 2 →
      t.slotMove (some true) = { t with state := .present, replyStreak := 0 } ∧
      t.slotMove (some false) = { t with state := .mismatched, replyStreak := 0 })) ∧
  ∀ (t : Tile) (size : Option TileSize),
    t.afterSlot none size = t.slotMove none ∧
    ∀ r : TileReply,
      t.afterSlot (some r) size =
        { t.slotMove (some (decide (r.size = size ∧ size ≠ none))) with driveFault := r.driveFault }

/-- O46. Proving records move as Table 7-6 gives. A slot is compared exactly under the conditions of Table 7-3: the
outputs below the latched size are observed, no other record changes, and one LAMP entry with an item for each changed
verdict is offered when there is one. -/
def Obligations.ComparisonsMoveTheProvingRecords : Prop :=
  (observationOf true true = .onGood ∧ observationOf false false = .offGood ∧
    observationOf true false = .darkFault ∧ observationOf false true = .litFault) ∧
  (∀ r : ProvingRecord, r.Lawful →
    (r.verdict = .unproven →
      r.observe .onGood = ⟨.good, 0, none⟩ ∧ r.observe .offGood = r) ∧
    (r.verdict = .good → r.observe .onGood = ⟨.good, 0, none⟩ ∧ r.observe .offGood = ⟨.good, 0, none⟩) ∧
    (r.verdict = .dark →
      (r.streak < 2 → r.observe .onGood = ⟨.dark, r.streak + 1, none⟩) ∧
      (r.streak = 2 → r.observe .onGood = ⟨.good, 0, none⟩) ∧
      r.observe .offGood = r ∧ r.observe .darkFault = ⟨.dark, 0, none⟩ ∧ r.observe .litFault = r) ∧
    (r.verdict = .lit →
      (r.streak < 2 → r.observe .offGood = ⟨.lit, r.streak + 1, none⟩) ∧
      (r.streak = 2 → r.observe .offGood = ⟨.good, 0, none⟩) ∧
      r.observe .onGood = r ∧ r.observe .litFault = ⟨.lit, 0, none⟩ ∧ r.observe .darkFault = r) ∧
    ((r.verdict = .unproven ∨ r.verdict = .good) →
      (r.kind = some .dark → r.streak < 2 → r.observe .darkFault = ⟨r.verdict, r.streak + 1, some .dark⟩) ∧
      (r.kind = some .dark → r.streak = 2 → r.observe .darkFault = ⟨.dark, 0, none⟩) ∧
      (r.kind ≠ some .dark → r.observe .darkFault = ⟨r.verdict, 1, some .dark⟩) ∧
      (r.kind = some .lit → r.streak < 2 → r.observe .litFault = ⟨r.verdict, r.streak + 1, some .lit⟩) ∧
      (r.kind = some .lit → r.streak = 2 → r.observe .litFault = ⟨.lit, 0, none⟩) ∧
      (r.kind ≠ some .lit → r.observe .litFault = ⟨r.verdict, 1, some .lit⟩))) ∧
  ∀ (s : State) (r : SlotReport),
    (r.reply = none → s.compareSlot r = s) ∧
    ∀ w : TileReply, r.reply = some w →
      ((w.size = none ∨ w.size ≠ r.latched ∨ w.driveFault = true ∨ r.prevReply = false ∨ r.before ≠ .present ∨
          r.after ≠ .present) → s.compareSlot r = s) ∧
      ∀ z : TileSize, w.size = some z → r.latched = some z → w.driveFault = false → r.prevReply = true →
        r.before = .present → r.after = .present →
        let lamp := fun o : Nat => loopIndex r.loop * 2048 + r.slot.val * 64 + o
        let old := fun o : Nat => provingOf s.proving (lamp o)
        let new := fun o : Nat => (old o).observe (observationOf (r.commanded.getLsbD o) (w.sense.getLsbD o))
        let changed := (List.finRange 64).filter fun o =>
          decide (o.val < z.outputs ∧ (new o.val).verdict ≠ (old o.val).verdict)
        ∃ proving : Sparse ProvingRecord,
          (∀ o, o < z.outputs → provingOf proving (lamp o) = new o) ∧
          (∀ n, (∀ o, o < z.outputs → n ≠ lamp o) → provingOf proving n = provingOf s.proving n) ∧
          (changed = [] → s.compareSlot r = { s with proving := proving }) ∧
          (changed ≠ [] →
            s.compareSlot r =
              ({ s with proving := proving } : State).offer
                ⟨.lamp, loopSource r.loop, .tile r.loop r.slot, byteOf changed.length,
                  byteOf ((List.range 64).filter fun o => (provingOf proving (lamp o)).verdict.faulty).length,
                  changed.map fun o => (o, (new o.val).verdict), none⟩)

/-- O47. A loop that becomes STOPPED keeps its period and its images and clears the rest as R103 gives. At a frame end the
front image's flags become the previous sent image and this frame's replies the previous ones; a RUNNING loop goes on, a
STOPPING loop becomes STOPPED and drops its claim on the composer. A pending frame start of a RUNNING loop is then due, and
FRAME_START takes it at once, before any other command (log entry 4). A frame end that is not due is dropped
(log entry 6). -/
def Obligations.FramesEnd : Prop :=
  (∀ c : LoopController,
    c.stop =
      { c with
        state := .stopped
        timer := .stopped 0
        transfer := none
        startPending := false
        backComplete := false
        latched := Bank.fill 32 none
        thisReply := Bank.fill 32 false
        prevReply := Bank.fill 32 false
        repeated := false
        tiles := Bank.make fun slot =>
          ⟨(c.tiles.get slot).size, (c.tiles.get slot).enabled,
            if (c.tiles.get slot).enabled then .joining else .disabled, 0, 0, false⟩
        line := [] }) ∧
  ∀ (s : State) (l : Loop), s.attends = true →
    let c := s.loop l
    let ended : LoopController :=
      { c with previous := c.front.flags, prevReply := c.thisReply, transfer := none, line := [] }
    (c.transfer = none → exec (.frameEnd l) s = .next s) ∧
    ∀ t : Transfer, c.transfer = some t →
      (t.remaining ≠ [] → exec (.frameEnd l) s = .next s) ∧
      (t.remaining = [] →
        (c.state = .running → exec (.frameEnd l) s = .next (s.withLoop l ended)) ∧
        (c.state = .stopping →
          exec (.frameEnd l) s =
            .next { s.withLoop l ended.stop with composer := s.composer.drop l }))

/-! ### Operating modes and tests -/

/-- O48. SET MODE ONLINE that finds the part OFFLINE sets the mode, starts a STOPPED loop and resumes a STOPPING one (A
before B) with their compose requests, derives HORN again and offers one MODE entry; SET MODE OFFLINE that finds it
ONLINE makes HORN QUIET, stops or runs out the loops, ends the lamp test and offers the MODE and, if it ended one, the
OPERATOR entry. Either changes nothing when the mode already stands so. -/
def Obligations.ModeChangesAreCarriedOut : Prop :=
  ∀ s : State, s.open = true →
    let was := s.mode.hostTimer.runs || s.mode.deskHold
    (s.mode.device = .online → exec .setModeOnline s = .next (s.sendReply 0x82 .ok [] false)) ∧
    (s.mode.device = .offline → exec .setModeOffline s = .next (s.sendReply 0x82 .ok [] false)) ∧
    (s.mode.device = .offline →
      let up := fun c : LoopController =>
        if c.state = .stopped then
          { c with
            state := .running, front := ⟨Bank.fill 32 0, s.intensity⟩, timer := .counting c.period }
        else if c.state = .stopping then { c with state := .running }
        else c
      let asks := fun c : LoopController =>
        decide (c.state = .stopped ∨ (c.state = .stopping ∧ c.backComplete = false))
      let afterA := if asks s.loopA then s.composer.ask .a else s.composer
      exec .setModeOnline s =
        .next
          (({ s with
              loopA := up s.loopA
              loopB := up s.loopB
              composer := if asks s.loopB then afterA.ask .b else afterA
              mode := { s.mode with device := .online }
              alarm :=
                { s.alarm with
                  horn := hornOf false .online s.alarm.list
                  hornPin := hornSignal (hornOf false .online s.alarm.list) s.cadence.fast.phase }
              journal := (s.offer ⟨.mode, .host, .none, 0, 1, [], none⟩).journal } : State).sendReply 0x82 .ok []
            false)) ∧
    (s.mode.device = .online →
      let down := fun c : LoopController =>
        if c.state = .running then (if c.transfer.isSome then { c with state := .stopping } else c.stop) else c
      let claim := fun (c : LoopController) (l : Loop) (x : Composer) =>
        if c.state = .running then (if c.transfer.isSome then x.withdraw l else x.drop l) else x
      let told := s.offer ⟨.mode, .host, .none, 1, 0, [], none⟩
      exec .setModeOffline s =
        .next
          (({ s with
              loopA := down s.loopA
              loopB := down s.loopB
              composer := claim s.loopB .b (claim s.loopA .a s.composer)
              mode := { s.mode with device := .offline, hostTimer := .stopped 0, deskHold := false }
              alarm := { s.alarm with horn := .quiet, hornPin := false }
              journal :=
                if was then (told.offer ⟨.operator, .host, .none, 2, 0, [], none⟩).journal
                else told.journal } : State).sendReply 0x82 .ok [] false))

/-- O49. RUN TEST is refused with MODE unless the part is OFFLINE with both loops STOPPED. A loop test latches each loop's
map without moving a tile and makes each first TEST frame due at once; a TEST frame carries the intensity setting and
the pattern of its number in every slot word; its slot ends record and judge the echoes and touch nothing else; its eighth
frame end, or any in an abort, stops the loop, and the test ends with its TEST entry when both are STOPPED. That the first
frame start is marked due and taken by FRAME_START before any other command is log entry 4, which slots become PASS at the
eighth frame end log entry 12, and how a TEST frame treats the reply records log entry 13. -/
def Obligations.LoopTestsRun : Prop :=
  (∀ o : Nat, o < 64 →
    (∀ n, n = 0 ∨ n = 4 → (testPattern n).getLsbD o = true) ∧
    (∀ n, n = 1 ∨ n = 5 → (testPattern n).getLsbD o = false) ∧
    (∀ n, n = 2 ∨ n = 6 → (testPattern n).getLsbD o = (o % 2 == 0)) ∧
    ∀ n, n = 3 ∨ n = 7 → (testPattern n).getLsbD o = (o % 2 == 1)) ∧
  (∀ (s : State) (kind : Byte), s.open = true → kind = 1 ∨ kind = 2 →
    (s.mode.device = .online ∨ s.loopA.state ≠ .stopped ∨ s.loopB.state ≠ .stopped) →
      exec (.runTest kind) s = .next (s.sendReply 0x84 .mode [] false)) ∧
  (∀ s : State, s.open = true → s.mode.device = .offline → s.loopA.state = .stopped → s.loopB.state = .stopped →
    let begun := fun c : LoopController =>
      { c with
        state := .testing
        timer := .counting c.period
        latched := Bank.make fun slot =>
          if (c.tiles.get slot).enabled then some (c.tiles.get slot).size else none
        startPending := true }
    exec (.runTest 2) s =
      .next
        (({ s with
            loopA := begun s.loopA
            loopB := begun s.loopB
            mode :=
              { s.mode with
                test := ⟨.loop, .running, 0, 0, Bank.fill 64 .notTested, false⟩ } } : State).sendReply 0x84 .ok []
          false)) ∧
  (∀ (s : State) (l : Loop), s.inReset = false → s.passDue = false → (s.loop l).startPending = true →
    (s.loop l).transfer = none → (s.loop l).state = .testing →
    let c := s.loop l
    let slots := (List.finRange 32).filter fun slot => (c.latched.get slot).isSome
    exec (.frameStart l) s =
      .next
        (s.withLoop l
          { c with
            startPending := false
            timer := .counting c.period
            thisReply := Bank.fill 32 false
            transfer := some ⟨.test, s.intensity, slots⟩
            line := [0x7E, 1, byteOf s.intensity.val] ++
              match slots with
              | [] => []
              | slot :: _ => byteOf slot.val :: flagBytes (testPattern (s.mode.test.frames l)) })) ∧
  (∀ (s : State) (l : Loop) (window : List RxChar) (t : Transfer) (slot : Fin 32) (rest : List (Fin 32)),
    s.attends = true → (s.loop l).state = .testing → (s.loop l).transfer = some t → t.kind = .test →
    t.remaining = slot :: rest →
    let i : Fin 64 := ⟨loopIndex l * 32 + slot.val, by cases l <;> simp only [loopIndex] <;> omega⟩
    let old := s.mode.test.results.get i
    let sent := testPattern (s.mode.test.frames l)
    let ended : LoopController :=
      { s.loop l with
        transfer := some { t with remaining := rest }
        line :=
          match rest with
          | [] => []
          | next :: _ => byteOf next.val :: flagBytes sent
        thisReply := if (tileReplyOf window).isSome then (s.loop l).thisReply.put slot true else (s.loop l).thisReply }
    ∃ result : TileResult,
      exec (.slotEnd l window) s =
        .next
          { s.withLoop l ended with
            mode := { s.mode with test := { s.mode.test with results := s.mode.test.results.put i result } } } ∧
      (tileReplyOf window = none → result = .noReply) ∧
      ∀ w, tileReplyOf window = some w →
        (old ≠ .notTested → result = old) ∧
        (old = .notTested →
          ((∃ z, w.size = some z ∧ (s.loop l).latched.get slot = some z ∧
              ∀ o, o < z.outputs → w.sense.getLsbD o = sent.getLsbD o) →
            result = .notTested) ∧
          ((w.size = none ∨ w.size ≠ (s.loop l).latched.get slot) → result = .fail) ∧
          ∀ z o, (s.loop l).latched.get slot = some z → o < z.outputs → w.sense.getLsbD o ≠ sent.getLsbD o →
            result = .fail)) ∧
  ∀ (s : State) (l : Loop) (t : Transfer), s.attends = true → (s.loop l).state = .testing →
    (s.loop l).transfer = some t → t.remaining = [] →
    let c := s.loop l
    let n := s.mode.test.frames l + 1
    let ended : LoopController := { c with prevReply := c.thisReply, transfer := none, line := [] }
    ∃ results : Bank 64 TileResult,
      (∀ i : Fin 64,
        results.get i =
          if n = 8 ∧ s.mode.test.results.get i = .notTested ∧
              ∃ slot : Fin 32, (c.latched.get slot).isSome = true ∧ loopIndex l * 32 + slot.val = i.val then .pass
          else s.mode.test.results.get i) ∧
      let test : TestRecord :=
        { s.mode.test with
          framesA := if l = .a then n else s.mode.test.framesA
          framesB := if l = .b then n else s.mode.test.framesB
          results := results }
      (n ≠ 8 → s.mode.test.state ≠ .aborting →
        exec (.frameEnd l) s = .next { s.withLoop l ended with mode := { s.mode with test := test } }) ∧
      ((n = 8 ∨ s.mode.test.state = .aborting) →
        let stopped : State :=
          { s.withLoop l ended.stop with
            composer := s.composer.drop l, mode := { s.mode with test := test } }
        exec (.frameEnd l) s = .next stopped.closeLoopTest)

/-- O50. A loop test whose loops are both STOPPED ends ABORTED if it was ABORTING, PASSED if no slot was found at fault,
and FAILED otherwise, with one TEST entry (R169, log entry 11); with a loop still TESTING it goes on. ABORT TEST is
refused with NO_TEST when no test is on, ends a memory test at once, and makes a loop test ABORTING, which stops every
TESTING loop with no frame in transfer. -/
def Obligations.TestsEndAndAbort : Prop :=
  (∀ s : State, s.mode.test.kind = .loop → (s.mode.test.state = .running ∨ s.mode.test.state = .aborting) →
    ((s.loopA.state ≠ .stopped ∨ s.loopB.state ≠ .stopped) → s.closeLoopTest = s) ∧
    (s.loopA.state = .stopped → s.loopB.state = .stopped →
      ∃ final : TestState,
        (s.mode.test.state = .aborting → final = .aborted) ∧
        (s.mode.test.state = .running →
          (∀ i, s.mode.test.results.get i ≠ .fail ∧ s.mode.test.results.get i ≠ .noReply) → final = .passed) ∧
        (s.mode.test.state = .running →
          (∃ i, s.mode.test.results.get i = .fail ∨ s.mode.test.results.get i = .noReply) → final = .failed) ∧
        s.closeLoopTest =
          ({ s with mode := { s.mode with test := { s.mode.test with state := final } } } : State).offer
            ⟨.test, if s.mode.test.powerUp then .reset else .test, .none, 2, byteOf final.code, [], none⟩)) ∧
  ∀ s : State, s.serves = true →
    (s.mode.test.state ≠ .running → s.mode.test.state ≠ .aborting →
      exec .abortTest s = .next (s.sendReply 0x85 .noTest [] false)) ∧
    (s.mode.test.state = .aborting → exec .abortTest s = .next (s.sendReply 0x85 .ok [2] false)) ∧
    (s.mode.test.state = .running → s.mode.test.kind = .memory →
      exec .abortTest s =
        .next
          ((({ s with mode := { s.mode with test := { s.mode.test with state := .aborted } } } : State).offer
            ⟨.test, if s.mode.test.powerUp then .reset else .test, .none, 1, 5, [], none⟩).sendReply 0x85 .ok [5]
              false)) ∧
    (s.mode.test.state = .running → s.mode.test.kind = .loop →
      let idle := fun c : LoopController => decide (c.state = .testing ∧ c.transfer = none)
      let afterA := if idle s.loopA then s.composer.drop .a else s.composer
      let marked : State :=
        { s with
          loopA := if idle s.loopA then s.loopA.stop else s.loopA
          loopB := if idle s.loopB then s.loopB.stop else s.loopB
          composer := if idle s.loopB then afterA.drop .b else afterA
          mode := { s.mode with test := { s.mode.test with state := .aborting } } }
      exec .abortTest s =
        .next
          (marked.closeLoopTest.sendReply 0x85 .ok [byteOf marked.closeLoopTest.mode.test.state.code] false))

/-- O51. A memory test starts with the points, the lamp ownership map, the proving records and the list cleared, the
journal emptied with its sequence number kept, and HORN derived again; the memory checker's completion ends it PASSED
or FAILED with one TEST entry. A completion with no memory test RUNNING is dropped (log entry 6). What the checker finds is the
event's operand (log entry 21). -/
def Obligations.MemoryTestsRun : Prop :=
  (∀ s : State, s.open = true → s.mode.device = .offline → s.loopA.state = .stopped → s.loopB.state = .stopped →
    exec (.runTest 1) s =
      .next
        (({ s with
            points := ⟨⟨[]⟩, ⟨[]⟩⟩
            proving := ⟨[]⟩
            alarm := { s.alarm with list := [], horn := .quiet, hornPin := false }
            journal := { s.journal with ring := [], attn := false }
            composer := s.catchUp.composer
            freeIndex := s.catchUp.freeIndex
            mode :=
              { s.mode with
                test := ⟨.memory, .running, 0, 0, Bank.fill 64 .notTested, false⟩ } } : State).sendReply 0x84 .ok []
          false)) ∧
  ∀ (s : State) (passed : Bool), s.attends = true →
    ((s.mode.test.kind ≠ .memory ∨ s.mode.test.state ≠ .running) →
      exec (.memoryTestCompletion passed) s = .next s) ∧
    (s.mode.test.kind = .memory → s.mode.test.state = .running →
      let final : TestState := if passed then .passed else .failed
      exec (.memoryTestCompletion passed) s =
        .next
          (({ s with mode := { s.mode with test := { s.mode.test with state := final } } } : State).offer
            ⟨.test, if s.mode.test.powerUp then .reset else .test, .none, 1, byteOf final.code, [], none⟩))

/-! ### Data supervision -/

/-- O52. A good frame loads the link countdown and ends LOST with one SUPERVISION entry; the countdown's expiry makes the
link LOST with one. SET SUPERVISION is refused by a LOCKED record unless it names LOCKED and the period held, and
otherwise stores mode and period, ends LOST on a change to OFF, and loads the countdown as R142 gives. An expiry that is
not due is dropped (log entry 6), and a countdown whose expiry is due reads as 1 tick (log entry 15). -/
def Obligations.LinkSupervisionFollowsItsRules : Prop :=
  (∀ s : State,
    let r := s.supervision.link
    let loaded : Timer := if r.mode = .off then .stopped (r.period * 1000) else .counting (r.period * 1000)
    let u : State :=
      { s with
        supervision := { s.supervision with link := { r with state := .healthy, countdown := loaded } } }
    (r.state = .healthy → s.goodFrame = u) ∧
    (r.state = .lost →
      s.goodFrame =
        { u with
          composer := s.catchUp.composer
          freeIndex := s.catchUp.freeIndex
          journal := (s.offer ⟨.supervision, .supervision, .none, 1, 0, [], none⟩).journal })) ∧
  (∀ s : State, s.takesExpiries = true →
    (s.supervision.link.countdown ≠ .expired → exec .linkCountdownExpiry s = .next s) ∧
    (s.supervision.link.countdown = .expired →
      exec .linkCountdownExpiry s =
        .next
          { s with
            supervision :=
              { s.supervision with
                link := { s.supervision.link with state := .lost, countdown := .stopped 0 } }
            composer := s.catchUp.composer
            freeIndex := s.catchUp.freeIndex
            journal := (s.offer ⟨.supervision, .supervision, .none, 0, 1, [], none⟩).journal })) ∧
  ∀ (s : State) (mode : LinkMode) (period : Byte), s.open = true → 1 ≤ period.toNat →
    let r := s.supervision.link
    let p := period.toNat
    ((r.mode = .locked ∧ ¬ (mode = .locked ∧ p = r.period)) →
      exec (.setSupervision (byteOf mode.code) period) s = .next (s.sendReply 0xC0 .locked [] false)) ∧
    ((r.mode ≠ .locked ∨ (mode = .locked ∧ p = r.period)) →
      let changed := decide (mode ≠ r.mode ∨ p ≠ r.period)
      let state : LinkState := if changed ∧ mode = .off then .healthy else r.state
      let countdown : Timer :=
        if changed = false then r.countdown
        else if p ≠ r.period ∨ mode = .off ∨ r.mode = .off then
          (if mode ≠ .off ∧ state = .healthy then .counting (p * 1000) else .stopped (p * 1000))
        else r.countdown
      let lostEnds := decide (r.state = .lost ∧ state = .healthy)
      exec (.setSupervision (byteOf mode.code) period) s =
        .next
          (({ s with
              supervision := { s.supervision with link := ⟨mode, p, countdown, state⟩ }
              composer := if lostEnds then s.catchUp.composer else s.composer
              freeIndex := if lostEnds then s.catchUp.freeIndex else s.freeIndex
              journal :=
                if lostEnds then (s.offer ⟨.supervision, .supervision, .none, 1, 0, [], none⟩).journal
                else s.journal } : State).sendReply 0xC0 .ok
            [byteOf mode.code, period, state.code, byteOf ((countdown.left + 999) / 1000)] false))

/-- O53. An outstation's expiry makes it FAILED and a refresh makes a FAILED one HEALTHY, each with one SUPERVISION entry;
a refresh loads a HEALTHY one's countdown and leaves an UNSUPERVISED one alone. SITE HEARTBEAT refreshes the numbers
below 128 in order; SET OUTSTATION PERIODS moves the records from the first number upward as Table 8-4 gives. An expiry
that is not due is dropped (log entry 6). -/
def Obligations.OutstationsFollowTheirRules : Prop :=
  (∀ (s : State) (n : Fin 128),
    let o := s.supervision.outstations.get n
    let told := fun (t : State) (old new : Byte) =>
      t.offer ⟨.supervision, .supervision, .outstation n, old, new, [], none⟩
    (s.takesExpiries = true →
      (o.countdown ≠ .expired → exec (.outstationCountdownExpiry n) s = .next s) ∧
      (o.countdown = .expired →
        exec (.outstationCountdownExpiry n) s =
          .next (told (s.catchUp.withOutstation n { o with state := .failed, countdown := .stopped 0 }) 1 2))) ∧
    (o.state = .unsupervised → s.refresh n = s) ∧
    (o.state = .healthy → s.refresh n = s.withOutstation n { o with countdown := .counting (o.period * 1000) }) ∧
    (o.state = .failed →
      s.refresh n = told (s.withOutstation n { o with state := .healthy, countdown := .counting (o.period * 1000) }) 2 1) ∧
    (∀ p, p ≠ 0 → o.state ≠ .failed →
      s.storePeriod n p = s.withOutstation n ⟨p, .counting (p * 1000), .healthy⟩) ∧
    (∀ p, p ≠ 0 → o.state = .failed → s.storePeriod n p = s.withOutstation n ⟨p, .stopped 0, .failed⟩) ∧
    (o.state ≠ .failed → s.storePeriod n 0 = s.withOutstation n ⟨0, .stopped 0, .unsupervised⟩) ∧
    (o.state = .failed →
      s.storePeriod n 0 = told (s.catchUp.withOutstation n ⟨0, .stopped 0, .unsupervised⟩) 2 0)) ∧
  (∀ (s : State) (numbers : List Byte), s.open = true → 1 ≤ numbers.length → numbers.length ≤ 32 →
    let known := numbers.filterMap fun x => if h : x.toNat < 128 then some (⟨x.toNat, h⟩ : Fin 128) else none
    ∃ x : Byte,
      exec (.siteHeartbeat numbers) s =
        .next
          ((known.foldl (fun t n => t.catchUp.refresh n) s).sendReply 0xC2 .ok [byteOf known.length, x] false) ∧
      ((∀ y ∈ numbers, y.toNat < 128) → x = 0xFF) ∧
      ∀ i y, numbers[i]? = some y → 128 ≤ y.toNat → (∀ z ∈ numbers.take i, z.toNat < 128) → x = byteOf i) ∧
  ∀ (s : State) (first : Fin 128) (periods : List Half), s.open = true → 1 ≤ periods.length →
    first.val + periods.length ≤ 128 → (∀ p ∈ periods, p.toNat ≤ 3600) →
    let named := ((List.finRange 128).drop first.val).take periods.length
    exec (.setOutstationPeriods (byteOf first.val) periods) s =
      .next
        (((named.zip periods).foldl (fun t x => t.storePeriod x.1 x.2.toNat) s).sendReply 0xC1 .ok [] false)

/-! ### Resets -/

/-- O54. RESET is answered OK and changes nothing else; until the end of the reply's transmission no request is served,
and a request command waits in the queue (log entry 9). At its end the software reset is carried out: the queue, the
list, the proving records and the test record are cleared, the values of every point and the states of loops, tiles,
filters and countdowns return to their reset values, what each block is said to keep is kept, and the journal holds its
one reset entry. An end with no such reply in transmission is dropped (log entry 6). -/
def Obligations.SoftwareResetIsCarriedOut : Prop :=
  (∀ s : State, s.serves = true → exec .reset s = .next (s.sendReply 0x83 .ok [] true)) ∧
  (∀ s : State, s.attends = true → s.resetReplying = true →
    exec .serviceBegin s = .next s ∧
      ∀ c body, requestBody c = some body → exec c s = .next { s with link := s.link.offerItem (.request body) }) ∧
  ∀ s : State, s.attends = true →
    (s.resetReplying = false → exec .softwareReset s = .next s) ∧
    (s.resetReplying = true →
      let filter := fun {α : Type} (level : α) => (⟨level, none, 0⟩ : Machine.Filter α)
      let generator := fun x : CadenceGenerator =>
        { x with prescaleCounter := .counting x.prescaleReload, phaseCounter := .counting x.litReload, phase := .lit }
      let dark : Image := ⟨Bank.fill 32 0, s.intensity⟩
      let stopped := fun c : LoopController =>
        (⟨.stopped, c.period, .stopped 0, none, false, dark, dark, false, Bank.fill 32 0, Bank.fill 32 none,
          Bank.fill 32 false, Bank.fill 32 false, false,
          Bank.make fun slot =>
            ⟨(c.tiles.get slot).size, (c.tiles.get slot).enabled,
              if (c.tiles.get slot).enabled then .joining else .disabled, 0, 0, false⟩,
          []⟩ : LoopController)
      let link := s.supervision.link
      ∃ table : Sparse PointRecord,
        (∀ p, table.get? p =
          (s.point? p).map fun r =>
            { r with
              live := none, forced := none, lastChange := none
              alarm := if r.alarm.isSome then some .normal else none }) ∧
        table.cells.map Prod.fst = s.points.table.cells.map Prod.fst ∧
        exec .softwareReset s =
          .next
            { s with
              link := ⟨.hunt, [], .stopped 0, [], false, none⟩
              points := ⟨table, s.points.owners⟩
              alarm := ⟨[], s.alarm.threshold, .quiet, false⟩
              desk :=
                ⟨filter false, filter false, filter false, filter false, filter 0, s.desk.enabled, s.desk.period,
                  .counting s.desk.period, s.desk.pins⟩
              cadence :=
                ⟨s.cadence.time, generator s.cadence.fast, generator s.cadence.slow, generator s.cadence.wink⟩
              composer := ⟨none, .b, .none, .none, none⟩
              loopA := stopped s.loopA
              loopB := stopped s.loopB
              proving := ⟨[]⟩
              supervision :=
                { link :=
                    ⟨link.mode, link.period,
                      if link.mode = .off then .stopped (link.period * 1000) else .counting (link.period * 1000),
                      .healthy⟩
                  outstations := s.supervision.outstations.map fun o =>
                    if o.period = 0 then ⟨0, .stopped 0, .unsupervised⟩
                    else ⟨o.period, .counting (o.period * 1000), .healthy⟩ }
              journal :=
                ⟨[⟨0, s.cadence.time, .mode, .reset, .none, 0xFF, 0x81, []⟩], 1, s.journal.selection, true⟩
              mode := ⟨.offline, .stopped 0, false, ⟨.none, .notRun, 0, 0, Bank.fill 64 .notTested, false⟩⟩ })

/-- O55. The assertion of RESET empties the journal, negates ATTN and HORN and idles the transmit lines. Its negation
samples the straps and gives every block its hardware-reset values: no point is defined, every lamp is FREE, the list is
empty with threshold 3 and HORN QUIET, the journal holds its reset entry or, with TEST_AT_START HIGH, nothing while the
power-up memory test runs. That the assertion leaves the rest as it is is log entry 18, that a negation with no assertion
before it is power-up log entry 19, and that the levels at the desk pins are kept log entry 2. -/
def Obligations.HardwareResetIsCarriedOut : Prop :=
  (∀ s : State,
    exec .hardwareResetAssert s =
      .next
        { s with
          inReset := true
          link := { s.link with reply := none }
          loopA := { s.loopA with line := [] }
          loopB := { s.loopB with line := [] }
          journal := { s.journal with ring := [], attn := false }
          alarm := { s.alarm with horn := .quiet, hornPin := false } }) ∧
  ∀ (s : State) (straps : Straps),
    let filter := fun {α : Type} (level : α) => (⟨level, none, 0⟩ : Machine.Filter α)
    let generator := fun lit dark : Nat =>
      (⟨10, lit, dark, .counting 10, .counting lit, .lit, true⟩ : CadenceGenerator)
    let dark : Image := ⟨Bank.fill 32 0, 12⟩
    let stopped : LoopController :=
      ⟨.stopped, 40, .stopped 0, none, false, dark, dark, false, Bank.fill 32 0, Bank.fill 32 none,
        Bank.fill 32 false, Bank.fill 32 false, false, Bank.fill 32 ⟨.s64, false, .disabled, 0, 0, false⟩, []⟩
    let selection : Bank 16 Selection := Bank.fill 16 ⟨true, true, false, true⟩
    exec (.hardwareResetNegation straps) s =
      .next
        { pending := s.pending
          inReset := false
          straps := straps
          link := ⟨.hunt, [], .stopped 0, [], false, none⟩
          points := ⟨⟨[]⟩, ⟨[]⟩⟩
          alarm := ⟨[], 3, .quiet, false⟩
          desk :=
            ⟨filter false, filter false, filter false, filter false, filter 0, true, 4, .counting 4, s.desk.pins⟩
          cadence := ⟨0, generator 25 25, generator 50 50, generator 90 10⟩
          composer := ⟨none, .b, .none, .none, none⟩
          loopA := stopped
          loopB := stopped
          intensity := 12
          proving := ⟨[]⟩
          supervision :=
            { link :=
                ⟨if straps.supvAuto then .on else .off, 10,
                  if straps.supvAuto then .counting 10000 else .stopped 10000, .healthy⟩
              outstations := Bank.fill 128 ⟨0, .stopped 0, .unsupervised⟩ }
          journal :=
            if straps.testAtStart then ⟨[], 0, selection, false⟩
            else ⟨[⟨0, 0, .mode, .reset, .none, 0xFF, 0x80, []⟩], 1, selection, true⟩
          mode :=
            ⟨.offline, .stopped 0, false,
              if straps.testAtStart then ⟨.memory, .running, 0, 0, Bank.fill 64 .notTested, true⟩
              else ⟨.none, .notRun, 0, 0, Bank.fill 64 .notTested, false⟩⟩
          freeIndex := s.freeIndex }

/-! ### Invariants -/

/-- O56. The state after reset meets every invariant of Safety.lean. -/
def Obligations.ResetMeetsTheInvariants : Prop :=
  State.reset.journal.Lawful ∧ State.reset.journal.ItemsBounded ∧ State.reset.HornDerived ∧ State.reset.ModeLaw ∧
    State.reset.TablesCanonical ∧ State.reset.points.Lawful ∧ State.reset.points.OwnersAgree ∧ State.reset.ListLaw ∧
    State.reset.alarm.Ordered ∧ State.reset.StreaksLawful ∧ State.reset.supervision.Lawful ∧
    State.reset.composer.Lawful ∧ State.reset.link.QueueBounded ∧ State.reset.SettingsInRange

/-- O57. Every step keeps the journal law: at most 256 entries and 1024 detail items, consecutive sequence numbers, ATTN
exactly while the ring holds an entry. -/
def Obligations.StepsKeepTheJournal : Prop :=
  ∀ s t : State, s.journal.Lawful → s.journal.ItemsBounded → step s = .next t →
    t.journal.Lawful ∧ t.journal.ItemsBounded

/-- O58. Every step keeps HORN as Table 2-8 derives it, and keeps the mode law: a test is on only while OFFLINE, no loop is
RUNNING while OFFLINE, and a loop is TESTING only during a loop test. -/
def Obligations.StepsKeepHornAndMode : Prop :=
  (∀ s t : State, s.HornDerived → step s = .next t → t.HornDerived) ∧
  ∀ s t : State, s.ModeLaw → step s = .next t → t.ModeLaw

/-- O59. Every step keeps the points lawful, the ownership map in agreement with them, the list holding exactly the
pending alarms once each in priority order, and the tables canonical. -/
def Obligations.StepsKeepPointsAndList : Prop :=
  (∀ s t : State, s.TablesCanonical → step s = .next t → t.TablesCanonical) ∧
  (∀ s t : State, s.points.Lawful → s.points.OwnersAgree → step s = .next t →
    t.points.Lawful ∧ t.points.OwnersAgree) ∧
  ∀ s t : State, s.points.Lawful → s.ListLaw → s.alarm.Ordered → step s = .next t → t.ListLaw ∧ t.alarm.Ordered

/-- O60. Every step keeps the streaks of tiles and lamps, the supervision records, the composer's requests, the queue and
the host's settings lawful. -/
def Obligations.StepsKeepTheRecords : Prop :=
  (∀ s t : State, s.StreaksLawful → step s = .next t → t.StreaksLawful) ∧
  (∀ s t : State, s.supervision.Lawful → step s = .next t → t.supervision.Lawful) ∧
  (∀ s t : State, s.composer.Lawful → step s = .next t → t.composer.Lawful) ∧
  (∀ s t : State, s.link.QueueBounded → step s = .next t → t.link.QueueBounded) ∧
  ∀ s t : State, s.SettingsInRange → step s = .next t → t.SettingsInRange
end

