-- ==== Sys2Proof/Laws/Codec.lean ====
section
/-!
SUPPORT. Fields packed into bytes are read back as they were (Table 11-3, note 3).
-/

namespace Sys2Proof.Machine

/-- A two-byte field is read back. -/
@[simp] theorem halfOf_bytes (h : Half) : halfOf (byteOf (h.toNat / 256)) (byteOf h.toNat) = h := by
  have := h.isLt
  apply BitVec.eq_of_toNat_eq
  simp only [halfOf, byteOf, BitVec.toNat_append, BitVec.toNat_ofNat]
  rw [← Nat.shiftLeft_add_eq_or_of_lt (by omega), Nat.shiftLeft_eq]
  omega

/-- A word is read back. -/
@[simp] theorem wordOf_bytes (w : Word) :
    wordOf (byteOf (w.toNat / 16777216)) (byteOf (w.toNat / 65536)) (byteOf (w.toNat / 256)) (byteOf w.toNat) = w := by
  have := w.isLt
  apply BitVec.eq_of_toNat_eq
  simp only [wordOf, byteOf, BitVec.toNat_append, BitVec.toNat_ofNat]
  rw [← Nat.shiftLeft_add_eq_or_of_lt (by omega), ← Nat.shiftLeft_add_eq_or_of_lt (by omega),
    ← Nat.shiftLeft_add_eq_or_of_lt (by omega)]
  simp only [Nat.shiftLeft_eq]
  omega

/-- Whole two-byte fields are read back. -/
@[simp] theorem halvesOf_halfBytes (l : List Half) : halvesOf (l.flatMap fun n => halfBytes n.toNat) = some l := by
  induction l with
  | nil => rfl
  | cons a l ih => simp [halfBytes, halvesOf] at ih ⊢; simp [ih]

/-- Whole updates are read back. -/
@[simp] theorem updatesOf_updateBytes (l : List Update) :
    updatesOf (l.flatMap fun u => halfBytes u.point.toNat ++ [u.value]) = some l := by
  induction l with
  | nil => rfl
  | cons a l ih => simp [halfBytes, updatesOf] at ih ⊢; simp [ih]

/-! ### The supervisory line (R175) -/

@[simp] theorem characterBits_length (b : Byte) : (characterBits b).length = 10 := by
  simp [characterBits]

/-- A frame of n characters takes n × 10 bit times. -/
@[simp] theorem lineBits_length (frame : List Byte) : (lineBits frame).length = 10 * frame.length := by
  induction frame with
  | nil => rfl
  | cons b rest ih =>
    rw [lineBits, List.flatMap_cons, List.length_append, characterBits_length, ← lineBits, ih, List.length_cons]
    omega

@[simp] theorem Reply.ofFrame_frame (frame : List Byte) (ofReset : Bool) :
    (Reply.ofFrame frame ofReset).frame = frame := rfl

@[simp] theorem Reply.ofFrame_ofReset (frame : List Byte) (ofReset : Bool) :
    (Reply.ofFrame frame ofReset).ofReset = ofReset := rfl

/-- What is still to be sent of a reply is the length of its levels on the line, in thousandths of a bit time. -/
theorem Reply.ofFrame_left (frame : List Byte) (ofReset : Bool) :
    (Reply.ofFrame frame ofReset).left = 1000 * (lineBits frame).length := by
  rw [lineBits_length]
  show 10000 * frame.length = _
  omega

/-- A tick ends an ordinary reply that is sent whole, and lowers what is left of any other; frame and kind stay. -/
theorem Reply.tick_cases (rate : Nat) (r : Reply) :
    (r.left = 0 ∧ r.ofReset = false ∧ r.tick rate = none) ∨
      ((0 < r.left ∨ r.ofReset = true) ∧ r.tick rate = some { r with left := r.left - rate }) := by
  unfold Reply.tick
  split
  · next h => exact .inl ⟨h.1, h.2, rfl⟩
  · next h =>
    refine .inr ⟨?_, rfl⟩
    rcases Nat.eq_zero_or_pos r.left with hz | hp
    · right
      cases hr : r.ofReset
      · exact absurd ⟨hz, hr⟩ h
      · rfl
    · exact .inl hp

end Sys2Proof.Machine
end

