-- ==== Sys2Proof/Laws/Frames.lean ====
section
/-!
SUPPORT. What each shared operation leaves as it was, one lemma for each: the fields it does not change. A proof cites
these in place of unfolding the operation.
-/

namespace Sys2Proof.Machine

/-! ### Single updates -/

@[simp] theorem State.withPoint_frame (s : State) (p : Nat) (r : PointRecord) :
    (s.withPoint p r).pending = s.pending ∧ (s.withPoint p r).inReset = s.inReset ∧
    (s.withPoint p r).straps = s.straps ∧ (s.withPoint p r).link = s.link ∧ (s.withPoint p r).alarm = s.alarm ∧
    (s.withPoint p r).desk = s.desk ∧ (s.withPoint p r).cadence = s.cadence ∧
    (s.withPoint p r).composer = s.composer ∧ (s.withPoint p r).loopA = s.loopA ∧
    (s.withPoint p r).loopB = s.loopB ∧ (s.withPoint p r).intensity = s.intensity ∧
    (s.withPoint p r).proving = s.proving ∧ (s.withPoint p r).supervision = s.supervision ∧
    (s.withPoint p r).journal = s.journal ∧ (s.withPoint p r).mode = s.mode ∧
    (s.withPoint p r).freeIndex = s.freeIndex := by
  exact ⟨rfl, rfl, rfl, rfl, rfl, rfl, rfl, rfl, rfl, rfl, rfl, rfl, rfl, rfl, rfl, rfl⟩

@[simp] theorem State.withList_frame (s : State) (list : List AnnEntry) :
    (s.withList list).pending = s.pending ∧ (s.withList list).inReset = s.inReset ∧
    (s.withList list).straps = s.straps ∧ (s.withList list).link = s.link ∧ (s.withList list).points = s.points ∧
    (s.withList list).desk = s.desk ∧ (s.withList list).cadence = s.cadence ∧
    (s.withList list).composer = s.composer ∧ (s.withList list).loopA = s.loopA ∧
    (s.withList list).loopB = s.loopB ∧ (s.withList list).intensity = s.intensity ∧
    (s.withList list).proving = s.proving ∧ (s.withList list).supervision = s.supervision ∧
    (s.withList list).journal = s.journal ∧ (s.withList list).mode = s.mode ∧
    (s.withList list).freeIndex = s.freeIndex := by
  exact ⟨rfl, rfl, rfl, rfl, rfl, rfl, rfl, rfl, rfl, rfl, rfl, rfl, rfl, rfl, rfl, rfl⟩

@[simp] theorem State.deriveHorn_frame (s : State) :
    (s.deriveHorn).pending = s.pending ∧ (s.deriveHorn).inReset = s.inReset ∧ (s.deriveHorn).straps = s.straps ∧
    (s.deriveHorn).link = s.link ∧ (s.deriveHorn).points = s.points ∧ (s.deriveHorn).desk = s.desk ∧
    (s.deriveHorn).cadence = s.cadence ∧ (s.deriveHorn).composer = s.composer ∧ (s.deriveHorn).loopA = s.loopA ∧
    (s.deriveHorn).loopB = s.loopB ∧ (s.deriveHorn).intensity = s.intensity ∧ (s.deriveHorn).proving = s.proving ∧
    (s.deriveHorn).supervision = s.supervision ∧ (s.deriveHorn).journal = s.journal ∧ (s.deriveHorn).mode = s.mode ∧
    (s.deriveHorn).freeIndex = s.freeIndex := by
  exact ⟨rfl, rfl, rfl, rfl, rfl, rfl, rfl, rfl, rfl, rfl, rfl, rfl, rfl, rfl, rfl, rfl⟩

@[simp] theorem State.withLink_frame (s : State) (r : LinkRecord) :
    (s.withLink r).pending = s.pending ∧ (s.withLink r).inReset = s.inReset ∧ (s.withLink r).straps = s.straps ∧
    (s.withLink r).link = s.link ∧ (s.withLink r).points = s.points ∧ (s.withLink r).alarm = s.alarm ∧
    (s.withLink r).desk = s.desk ∧ (s.withLink r).cadence = s.cadence ∧ (s.withLink r).composer = s.composer ∧
    (s.withLink r).loopA = s.loopA ∧ (s.withLink r).loopB = s.loopB ∧ (s.withLink r).intensity = s.intensity ∧
    (s.withLink r).proving = s.proving ∧ (s.withLink r).journal = s.journal ∧ (s.withLink r).mode = s.mode ∧
    (s.withLink r).freeIndex = s.freeIndex := by
  exact ⟨rfl, rfl, rfl, rfl, rfl, rfl, rfl, rfl, rfl, rfl, rfl, rfl, rfl, rfl, rfl, rfl⟩

@[simp] theorem State.withOutstation_frame (s : State) (n : Fin 128) (o : Outstation) :
    (s.withOutstation n o).pending = s.pending ∧ (s.withOutstation n o).inReset = s.inReset ∧
    (s.withOutstation n o).straps = s.straps ∧ (s.withOutstation n o).link = s.link ∧
    (s.withOutstation n o).points = s.points ∧ (s.withOutstation n o).alarm = s.alarm ∧
    (s.withOutstation n o).desk = s.desk ∧ (s.withOutstation n o).cadence = s.cadence ∧
    (s.withOutstation n o).composer = s.composer ∧ (s.withOutstation n o).loopA = s.loopA ∧
    (s.withOutstation n o).loopB = s.loopB ∧ (s.withOutstation n o).intensity = s.intensity ∧
    (s.withOutstation n o).proving = s.proving ∧ (s.withOutstation n o).journal = s.journal ∧
    (s.withOutstation n o).mode = s.mode ∧ (s.withOutstation n o).freeIndex = s.freeIndex := by
  exact ⟨rfl, rfl, rfl, rfl, rfl, rfl, rfl, rfl, rfl, rfl, rfl, rfl, rfl, rfl, rfl, rfl⟩

@[simp] theorem State.withGenerator_frame (s : State) (g : Generator) (x : CadenceGenerator) :
    (s.withGenerator g x).pending = s.pending ∧ (s.withGenerator g x).inReset = s.inReset ∧
    (s.withGenerator g x).straps = s.straps ∧ (s.withGenerator g x).link = s.link ∧
    (s.withGenerator g x).points = s.points ∧ (s.withGenerator g x).alarm = s.alarm ∧
    (s.withGenerator g x).desk = s.desk ∧ (s.withGenerator g x).composer = s.composer ∧
    (s.withGenerator g x).loopA = s.loopA ∧ (s.withGenerator g x).loopB = s.loopB ∧
    (s.withGenerator g x).intensity = s.intensity ∧ (s.withGenerator g x).proving = s.proving ∧
    (s.withGenerator g x).supervision = s.supervision ∧ (s.withGenerator g x).journal = s.journal ∧
    (s.withGenerator g x).mode = s.mode ∧ (s.withGenerator g x).freeIndex = s.freeIndex := by
  exact ⟨rfl, rfl, rfl, rfl, rfl, rfl, rfl, rfl, rfl, rfl, rfl, rfl, rfl, rfl, rfl, rfl⟩

@[simp] theorem State.withDevice_frame (s : State) (d : DeviceMode) :
    (s.withDevice d).pending = s.pending ∧ (s.withDevice d).inReset = s.inReset ∧
    (s.withDevice d).straps = s.straps ∧ (s.withDevice d).link = s.link ∧ (s.withDevice d).points = s.points ∧
    (s.withDevice d).alarm = s.alarm ∧ (s.withDevice d).desk = s.desk ∧ (s.withDevice d).cadence = s.cadence ∧
    (s.withDevice d).composer = s.composer ∧ (s.withDevice d).loopA = s.loopA ∧ (s.withDevice d).loopB = s.loopB ∧
    (s.withDevice d).intensity = s.intensity ∧ (s.withDevice d).proving = s.proving ∧
    (s.withDevice d).supervision = s.supervision ∧ (s.withDevice d).journal = s.journal ∧
    (s.withDevice d).freeIndex = s.freeIndex := by
  exact ⟨rfl, rfl, rfl, rfl, rfl, rfl, rfl, rfl, rfl, rfl, rfl, rfl, rfl, rfl, rfl, rfl⟩

@[simp] theorem State.askCompose_frame (s : State) (l : Loop) :
    (s.askCompose l).pending = s.pending ∧ (s.askCompose l).inReset = s.inReset ∧
    (s.askCompose l).straps = s.straps ∧ (s.askCompose l).link = s.link ∧ (s.askCompose l).points = s.points ∧
    (s.askCompose l).alarm = s.alarm ∧ (s.askCompose l).desk = s.desk ∧ (s.askCompose l).cadence = s.cadence ∧
    (s.askCompose l).loopA = s.loopA ∧ (s.askCompose l).loopB = s.loopB ∧ (s.askCompose l).intensity = s.intensity ∧
    (s.askCompose l).proving = s.proving ∧ (s.askCompose l).supervision = s.supervision ∧
    (s.askCompose l).journal = s.journal ∧ (s.askCompose l).mode = s.mode ∧
    (s.askCompose l).freeIndex = s.freeIndex := by
  exact ⟨rfl, rfl, rfl, rfl, rfl, rfl, rfl, rfl, rfl, rfl, rfl, rfl, rfl, rfl, rfl, rfl⟩

@[simp] theorem State.beginPass_frame (s : State) (l : Loop) :
    (s.beginPass l).pending = s.pending ∧ (s.beginPass l).inReset = s.inReset ∧ (s.beginPass l).straps = s.straps ∧
    (s.beginPass l).link = s.link ∧ (s.beginPass l).points = s.points ∧ (s.beginPass l).alarm = s.alarm ∧
    (s.beginPass l).desk = s.desk ∧ (s.beginPass l).cadence = s.cadence ∧ (s.beginPass l).loopA = s.loopA ∧
    (s.beginPass l).loopB = s.loopB ∧ (s.beginPass l).intensity = s.intensity ∧
    (s.beginPass l).proving = s.proving ∧ (s.beginPass l).supervision = s.supervision ∧
    (s.beginPass l).journal = s.journal ∧ (s.beginPass l).mode = s.mode ∧
    (s.beginPass l).freeIndex = s.freeIndex := by
  exact ⟨rfl, rfl, rfl, rfl, rfl, rfl, rfl, rfl, rfl, rfl, rfl, rfl, rfl, rfl, rfl, rfl⟩

@[simp] theorem State.sendReply_frame (s : State) (k : Byte) (x : Status) (p : List Byte) (r : Bool) :
    (s.sendReply k x p r).pending = s.pending ∧ (s.sendReply k x p r).inReset = s.inReset ∧
    (s.sendReply k x p r).straps = s.straps ∧ (s.sendReply k x p r).points = s.points ∧
    (s.sendReply k x p r).alarm = s.alarm ∧ (s.sendReply k x p r).desk = s.desk ∧
    (s.sendReply k x p r).cadence = s.cadence ∧ (s.sendReply k x p r).composer = s.composer ∧
    (s.sendReply k x p r).loopA = s.loopA ∧ (s.sendReply k x p r).loopB = s.loopB ∧
    (s.sendReply k x p r).intensity = s.intensity ∧ (s.sendReply k x p r).proving = s.proving ∧
    (s.sendReply k x p r).supervision = s.supervision ∧ (s.sendReply k x p r).journal = s.journal ∧
    (s.sendReply k x p r).mode = s.mode ∧ (s.sendReply k x p r).freeIndex = s.freeIndex := by
  exact ⟨rfl, rfl, rfl, rfl, rfl, rfl, rfl, rfl, rfl, rfl, rfl, rfl, rfl, rfl, rfl, rfl⟩

@[simp] theorem State.withLoop_frame (s : State) (l : Loop) (c : LoopController) :
    (s.withLoop l c).pending = s.pending ∧ (s.withLoop l c).inReset = s.inReset ∧
    (s.withLoop l c).straps = s.straps ∧ (s.withLoop l c).link = s.link ∧ (s.withLoop l c).points = s.points ∧
    (s.withLoop l c).alarm = s.alarm ∧ (s.withLoop l c).desk = s.desk ∧ (s.withLoop l c).cadence = s.cadence ∧
    (s.withLoop l c).composer = s.composer ∧ (s.withLoop l c).intensity = s.intensity ∧
    (s.withLoop l c).proving = s.proving ∧ (s.withLoop l c).supervision = s.supervision ∧
    (s.withLoop l c).journal = s.journal ∧ (s.withLoop l c).mode = s.mode ∧
    (s.withLoop l c).freeIndex = s.freeIndex := by
  cases l <;> exact ⟨rfl, rfl, rfl, rfl, rfl, rfl, rfl, rfl, rfl, rfl, rfl, rfl, rfl, rfl, rfl⟩

/-! ### The journal and the composer -/

@[simp] theorem State.offer_frame (o : Offer) (s : State) :
    (s.offer o).pending = s.pending ∧ (s.offer o).inReset = s.inReset ∧ (s.offer o).straps = s.straps ∧
    (s.offer o).link = s.link ∧ (s.offer o).points = s.points ∧ (s.offer o).alarm = s.alarm ∧
    (s.offer o).desk = s.desk ∧ (s.offer o).cadence = s.cadence ∧ (s.offer o).composer = s.composer ∧
    (s.offer o).loopA = s.loopA ∧ (s.offer o).loopB = s.loopB ∧ (s.offer o).intensity = s.intensity ∧
    (s.offer o).proving = s.proving ∧ (s.offer o).supervision = s.supervision ∧ (s.offer o).mode = s.mode ∧
    (s.offer o).freeIndex = s.freeIndex := by
  generalize h : s.offer o = t
  unfold State.offer at h
  (repeat' split at h) <;> (subst h; simp)

@[simp] theorem State.catchUp_frame (s : State) :
    (s.catchUp).pending = s.pending ∧ (s.catchUp).inReset = s.inReset ∧ (s.catchUp).straps = s.straps ∧
    (s.catchUp).link = s.link ∧ (s.catchUp).points = s.points ∧ (s.catchUp).alarm = s.alarm ∧
    (s.catchUp).desk = s.desk ∧ (s.catchUp).cadence = s.cadence ∧ (s.catchUp).loopA = s.loopA ∧
    (s.catchUp).loopB = s.loopB ∧ (s.catchUp).intensity = s.intensity ∧ (s.catchUp).proving = s.proving ∧
    (s.catchUp).supervision = s.supervision ∧ (s.catchUp).journal = s.journal ∧ (s.catchUp).mode = s.mode := by
  generalize h : s.catchUp = t
  unfold State.catchUp at h
  (repeat' split at h) <;> (subst h; simp)

@[simp] theorem State.startPass_frame (s : State) :
    (s.startPass).pending = s.pending ∧ (s.startPass).inReset = s.inReset ∧ (s.startPass).straps = s.straps ∧
    (s.startPass).link = s.link ∧ (s.startPass).points = s.points ∧ (s.startPass).alarm = s.alarm ∧
    (s.startPass).desk = s.desk ∧ (s.startPass).cadence = s.cadence ∧ (s.startPass).loopA = s.loopA ∧
    (s.startPass).loopB = s.loopB ∧ (s.startPass).intensity = s.intensity ∧ (s.startPass).proving = s.proving ∧
    (s.startPass).supervision = s.supervision ∧ (s.startPass).journal = s.journal ∧ (s.startPass).mode = s.mode ∧
    (s.startPass).freeIndex = s.freeIndex := by
  generalize h : s.startPass = t
  unfold State.startPass at h
  (repeat' split at h) <;> (subst h; simp)

@[simp] theorem State.completePass_frame (s : State) (p : Pass) :
    (s.completePass p).pending = s.pending ∧ (s.completePass p).inReset = s.inReset ∧
    (s.completePass p).straps = s.straps ∧ (s.completePass p).link = s.link ∧ (s.completePass p).points = s.points ∧
    (s.completePass p).alarm = s.alarm ∧ (s.completePass p).desk = s.desk ∧ (s.completePass p).cadence = s.cadence ∧
    (s.completePass p).intensity = s.intensity ∧ (s.completePass p).proving = s.proving ∧
    (s.completePass p).supervision = s.supervision ∧ (s.completePass p).journal = s.journal ∧
    (s.completePass p).mode = s.mode ∧ (s.completePass p).freeIndex = s.freeIndex := by
  generalize h : s.completePass p = t
  unfold State.completePass at h
  (repeat' split at h) <;> (subst h; simp)

/-! ### The Alarm Unit and the Point Store -/

@[simp] theorem State.arrive_frame (s : State) (p : Nat) (r : PointRecord) (m : Bool) :
    (s.arrive p r m).pending = s.pending ∧ (s.arrive p r m).inReset = s.inReset ∧
    (s.arrive p r m).straps = s.straps ∧ (s.arrive p r m).link = s.link ∧ (s.arrive p r m).points = s.points ∧
    (s.arrive p r m).desk = s.desk ∧ (s.arrive p r m).cadence = s.cadence ∧ (s.arrive p r m).composer = s.composer ∧
    (s.arrive p r m).loopA = s.loopA ∧ (s.arrive p r m).loopB = s.loopB ∧ (s.arrive p r m).intensity = s.intensity ∧
    (s.arrive p r m).proving = s.proving ∧ (s.arrive p r m).supervision = s.supervision ∧
    (s.arrive p r m).journal = s.journal ∧ (s.arrive p r m).mode = s.mode ∧
    (s.arrive p r m).freeIndex = s.freeIndex := by
  unfold State.arrive
  simp

@[simp] theorem State.offerAlarm_frame (s : State) (p : Nat) (r : PointRecord) (x y : AlarmState) :
    (s.offerAlarm p r x y).pending = s.pending ∧ (s.offerAlarm p r x y).inReset = s.inReset ∧
    (s.offerAlarm p r x y).straps = s.straps ∧ (s.offerAlarm p r x y).link = s.link ∧
    (s.offerAlarm p r x y).points = s.points ∧ (s.offerAlarm p r x y).alarm = s.alarm ∧
    (s.offerAlarm p r x y).desk = s.desk ∧ (s.offerAlarm p r x y).cadence = s.cadence ∧
    (s.offerAlarm p r x y).composer = s.composer ∧ (s.offerAlarm p r x y).loopA = s.loopA ∧
    (s.offerAlarm p r x y).loopB = s.loopB ∧ (s.offerAlarm p r x y).intensity = s.intensity ∧
    (s.offerAlarm p r x y).proving = s.proving ∧ (s.offerAlarm p r x y).supervision = s.supervision ∧
    (s.offerAlarm p r x y).mode = s.mode ∧ (s.offerAlarm p r x y).freeIndex = s.freeIndex := by
  unfold State.offerAlarm
  simp

@[simp] theorem State.relist_frame (s : State) (p : Nat) (r : PointRecord) (x y : AlarmState) :
    (s.relist p r x y).pending = s.pending ∧ (s.relist p r x y).inReset = s.inReset ∧
    (s.relist p r x y).straps = s.straps ∧ (s.relist p r x y).link = s.link ∧ (s.relist p r x y).points = s.points ∧
    (s.relist p r x y).desk = s.desk ∧ (s.relist p r x y).cadence = s.cadence ∧
    (s.relist p r x y).composer = s.composer ∧ (s.relist p r x y).loopA = s.loopA ∧
    (s.relist p r x y).loopB = s.loopB ∧ (s.relist p r x y).intensity = s.intensity ∧
    (s.relist p r x y).proving = s.proving ∧ (s.relist p r x y).supervision = s.supervision ∧
    (s.relist p r x y).journal = s.journal ∧ (s.relist p r x y).mode = s.mode ∧
    (s.relist p r x y).freeIndex = s.freeIndex := by
  generalize h : s.relist p r x y = t
  unfold State.relist at h
  (repeat' split at h) <;> (subst h; simp)

@[simp] theorem State.valueChange_frame (s : State) (p : Nat) (r : PointRecord) (b : Bool) :
    (s.valueChange p r b).pending = s.pending ∧ (s.valueChange p r b).inReset = s.inReset ∧
    (s.valueChange p r b).straps = s.straps ∧ (s.valueChange p r b).link = s.link ∧
    (s.valueChange p r b).desk = s.desk ∧ (s.valueChange p r b).cadence = s.cadence ∧
    (s.valueChange p r b).composer = s.composer ∧ (s.valueChange p r b).loopA = s.loopA ∧
    (s.valueChange p r b).loopB = s.loopB ∧ (s.valueChange p r b).intensity = s.intensity ∧
    (s.valueChange p r b).proving = s.proving ∧ (s.valueChange p r b).supervision = s.supervision ∧
    (s.valueChange p r b).mode = s.mode ∧ (s.valueChange p r b).freeIndex = s.freeIndex := by
  generalize h : s.valueChange p r b = t
  unfold State.valueChange at h
  dsimp only at h
  (repeat' split at h) <;> (subst h; simp)

@[simp] theorem State.enableArrival_frame (s : State) (p : Nat) (r : PointRecord) :
    (s.enableArrival p r).pending = s.pending ∧ (s.enableArrival p r).inReset = s.inReset ∧
    (s.enableArrival p r).straps = s.straps ∧ (s.enableArrival p r).link = s.link ∧
    (s.enableArrival p r).desk = s.desk ∧ (s.enableArrival p r).cadence = s.cadence ∧
    (s.enableArrival p r).composer = s.composer ∧ (s.enableArrival p r).loopA = s.loopA ∧
    (s.enableArrival p r).loopB = s.loopB ∧ (s.enableArrival p r).intensity = s.intensity ∧
    (s.enableArrival p r).proving = s.proving ∧ (s.enableArrival p r).supervision = s.supervision ∧
    (s.enableArrival p r).mode = s.mode ∧ (s.enableArrival p r).freeIndex = s.freeIndex := by
  unfold State.enableArrival
  simp

@[simp] theorem State.withdrawEntry_frame (s : State) (p : Nat) :
    (s.withdrawEntry p).pending = s.pending ∧ (s.withdrawEntry p).inReset = s.inReset ∧
    (s.withdrawEntry p).straps = s.straps ∧ (s.withdrawEntry p).link = s.link ∧
    (s.withdrawEntry p).points = s.points ∧ (s.withdrawEntry p).desk = s.desk ∧
    (s.withdrawEntry p).cadence = s.cadence ∧ (s.withdrawEntry p).composer = s.composer ∧
    (s.withdrawEntry p).loopA = s.loopA ∧ (s.withdrawEntry p).loopB = s.loopB ∧
    (s.withdrawEntry p).intensity = s.intensity ∧ (s.withdrawEntry p).proving = s.proving ∧
    (s.withdrawEntry p).supervision = s.supervision ∧ (s.withdrawEntry p).journal = s.journal ∧
    (s.withdrawEntry p).mode = s.mode ∧ (s.withdrawEntry p).freeIndex = s.freeIndex := by
  unfold State.withdrawEntry
  simp

@[simp] theorem State.acknowledgeEntry_frame (x : Source) (s : State) (e : AnnEntry) :
    (s.acknowledgeEntry x e).pending = s.pending ∧ (s.acknowledgeEntry x e).inReset = s.inReset ∧
    (s.acknowledgeEntry x e).straps = s.straps ∧ (s.acknowledgeEntry x e).link = s.link ∧
    (s.acknowledgeEntry x e).desk = s.desk ∧ (s.acknowledgeEntry x e).cadence = s.cadence ∧
    (s.acknowledgeEntry x e).composer = s.composer ∧ (s.acknowledgeEntry x e).loopA = s.loopA ∧
    (s.acknowledgeEntry x e).loopB = s.loopB ∧ (s.acknowledgeEntry x e).intensity = s.intensity ∧
    (s.acknowledgeEntry x e).proving = s.proving ∧ (s.acknowledgeEntry x e).supervision = s.supervision ∧
    (s.acknowledgeEntry x e).mode = s.mode ∧ (s.acknowledgeEntry x e).freeIndex = s.freeIndex := by
  generalize h : s.acknowledgeEntry x e = t
  unfold State.acknowledgeEntry at h
  dsimp only at h
  (repeat' split at h) <;> (subst h; simp)

/-- Acknowledging one entry after another. -/
@[simp] theorem State.acknowledgeFold_frame (x : Source) (es : List AnnEntry) : ∀ s : State,
    (es.foldl (State.acknowledgeEntry x) s).pending = s.pending ∧
    (es.foldl (State.acknowledgeEntry x) s).inReset = s.inReset ∧
    (es.foldl (State.acknowledgeEntry x) s).straps = s.straps ∧
    (es.foldl (State.acknowledgeEntry x) s).link = s.link ∧ (es.foldl (State.acknowledgeEntry x) s).desk = s.desk ∧
    (es.foldl (State.acknowledgeEntry x) s).cadence = s.cadence ∧
    (es.foldl (State.acknowledgeEntry x) s).composer = s.composer ∧
    (es.foldl (State.acknowledgeEntry x) s).loopA = s.loopA ∧
    (es.foldl (State.acknowledgeEntry x) s).loopB = s.loopB ∧
    (es.foldl (State.acknowledgeEntry x) s).intensity = s.intensity ∧
    (es.foldl (State.acknowledgeEntry x) s).proving = s.proving ∧
    (es.foldl (State.acknowledgeEntry x) s).supervision = s.supervision ∧
    (es.foldl (State.acknowledgeEntry x) s).mode = s.mode ∧
    (es.foldl (State.acknowledgeEntry x) s).freeIndex = s.freeIndex := by
  induction es with
  | nil => intro s; simp
  | cons e es ih => intro s; simp [ih]

@[simp] theorem State.acknowledgeEntries_frame (x : Source) (s : State) (es : List AnnEntry) :
    (s.acknowledgeEntries x es).pending = s.pending ∧ (s.acknowledgeEntries x es).inReset = s.inReset ∧
    (s.acknowledgeEntries x es).straps = s.straps ∧ (s.acknowledgeEntries x es).link = s.link ∧
    (s.acknowledgeEntries x es).desk = s.desk ∧ (s.acknowledgeEntries x es).cadence = s.cadence ∧
    (s.acknowledgeEntries x es).loopA = s.loopA ∧ (s.acknowledgeEntries x es).loopB = s.loopB ∧
    (s.acknowledgeEntries x es).intensity = s.intensity ∧ (s.acknowledgeEntries x es).proving = s.proving ∧
    (s.acknowledgeEntries x es).supervision = s.supervision ∧ (s.acknowledgeEntries x es).mode = s.mode := by
  generalize h : s.acknowledgeEntries x es = t
  unfold State.acknowledgeEntries at h
  (repeat' split at h) <;> (subst h; simp)

@[simp] theorem State.deskAcknowledge_frame (s : State) (b : Bool) (k : Fin 16) :
    (s.deskAcknowledge b k).pending = s.pending ∧ (s.deskAcknowledge b k).inReset = s.inReset ∧
    (s.deskAcknowledge b k).straps = s.straps ∧ (s.deskAcknowledge b k).link = s.link ∧
    (s.deskAcknowledge b k).desk = s.desk ∧ (s.deskAcknowledge b k).cadence = s.cadence ∧
    (s.deskAcknowledge b k).loopA = s.loopA ∧ (s.deskAcknowledge b k).loopB = s.loopB ∧
    (s.deskAcknowledge b k).intensity = s.intensity ∧ (s.deskAcknowledge b k).proving = s.proving ∧
    (s.deskAcknowledge b k).supervision = s.supervision ∧ (s.deskAcknowledge b k).mode = s.mode := by
  generalize h : s.deskAcknowledge b k = t
  unfold State.deskAcknowledge at h
  (repeat' split at h) <;> (subst h; simp)

@[simp] theorem State.silenceHorn_frame (s : State) (x : Source) :
    (s.silenceHorn x).pending = s.pending ∧ (s.silenceHorn x).inReset = s.inReset ∧
    (s.silenceHorn x).straps = s.straps ∧ (s.silenceHorn x).link = s.link ∧ (s.silenceHorn x).points = s.points ∧
    (s.silenceHorn x).desk = s.desk ∧ (s.silenceHorn x).cadence = s.cadence ∧
    (s.silenceHorn x).composer = s.composer ∧ (s.silenceHorn x).loopA = s.loopA ∧
    (s.silenceHorn x).loopB = s.loopB ∧ (s.silenceHorn x).intensity = s.intensity ∧
    (s.silenceHorn x).proving = s.proving ∧ (s.silenceHorn x).supervision = s.supervision ∧
    (s.silenceHorn x).mode = s.mode ∧ (s.silenceHorn x).freeIndex = s.freeIndex := by
  unfold State.silenceHorn
  simp

@[simp] theorem State.offerAdmin_frame (s : State) (p : Nat) (k : Fin 16) (a : Byte) (v : Option Nat) :
    (s.offerAdmin p k a v).pending = s.pending ∧ (s.offerAdmin p k a v).inReset = s.inReset ∧
    (s.offerAdmin p k a v).straps = s.straps ∧ (s.offerAdmin p k a v).link = s.link ∧
    (s.offerAdmin p k a v).points = s.points ∧ (s.offerAdmin p k a v).alarm = s.alarm ∧
    (s.offerAdmin p k a v).desk = s.desk ∧ (s.offerAdmin p k a v).cadence = s.cadence ∧
    (s.offerAdmin p k a v).composer = s.composer ∧ (s.offerAdmin p k a v).loopA = s.loopA ∧
    (s.offerAdmin p k a v).loopB = s.loopB ∧ (s.offerAdmin p k a v).intensity = s.intensity ∧
    (s.offerAdmin p k a v).proving = s.proving ∧ (s.offerAdmin p k a v).supervision = s.supervision ∧
    (s.offerAdmin p k a v).mode = s.mode ∧ (s.offerAdmin p k a v).freeIndex = s.freeIndex := by
  unfold State.offerAdmin
  simp

@[simp] theorem State.offerChange_frame (s : State) (p : Nat) (k : Fin 16) (x y : Option Nat) :
    (s.offerChange p k x y).pending = s.pending ∧ (s.offerChange p k x y).inReset = s.inReset ∧
    (s.offerChange p k x y).straps = s.straps ∧ (s.offerChange p k x y).link = s.link ∧
    (s.offerChange p k x y).points = s.points ∧ (s.offerChange p k x y).alarm = s.alarm ∧
    (s.offerChange p k x y).desk = s.desk ∧ (s.offerChange p k x y).cadence = s.cadence ∧
    (s.offerChange p k x y).composer = s.composer ∧ (s.offerChange p k x y).loopA = s.loopA ∧
    (s.offerChange p k x y).loopB = s.loopB ∧ (s.offerChange p k x y).intensity = s.intensity ∧
    (s.offerChange p k x y).proving = s.proving ∧ (s.offerChange p k x y).supervision = s.supervision ∧
    (s.offerChange p k x y).mode = s.mode ∧ (s.offerChange p k x y).freeIndex = s.freeIndex := by
  unfold State.offerChange
  simp

@[simp] theorem State.handOn_frame (s : State) (p : Nat) (r : PointRecord) (v : Option Nat) :
    (s.handOn p r v).pending = s.pending ∧ (s.handOn p r v).inReset = s.inReset ∧
    (s.handOn p r v).straps = s.straps ∧ (s.handOn p r v).link = s.link ∧ (s.handOn p r v).desk = s.desk ∧
    (s.handOn p r v).cadence = s.cadence ∧ (s.handOn p r v).composer = s.composer ∧
    (s.handOn p r v).loopA = s.loopA ∧ (s.handOn p r v).loopB = s.loopB ∧ (s.handOn p r v).intensity = s.intensity ∧
    (s.handOn p r v).proving = s.proving ∧ (s.handOn p r v).supervision = s.supervision ∧
    (s.handOn p r v).mode = s.mode ∧ (s.handOn p r v).freeIndex = s.freeIndex := by
  generalize h : s.handOn p r v = t
  unfold State.handOn at h
  (repeat' split at h) <;> (subst h; simp)

@[simp] theorem State.settle_frame (s : State) (p : Nat) (v : Option Nat) :
    (s.settle p v).pending = s.pending ∧ (s.settle p v).inReset = s.inReset ∧ (s.settle p v).straps = s.straps ∧
    (s.settle p v).link = s.link ∧ (s.settle p v).desk = s.desk ∧ (s.settle p v).cadence = s.cadence ∧
    (s.settle p v).composer = s.composer ∧ (s.settle p v).loopA = s.loopA ∧ (s.settle p v).loopB = s.loopB ∧
    (s.settle p v).intensity = s.intensity ∧ (s.settle p v).proving = s.proving ∧
    (s.settle p v).supervision = s.supervision ∧ (s.settle p v).mode = s.mode ∧
    (s.settle p v).freeIndex = s.freeIndex := by
  generalize h : s.settle p v = t
  unfold State.settle at h
  (repeat' split at h) <;> (subst h; simp)

/-! ### The Supervision Unit -/

@[simp] theorem State.offerLink_frame (s : State) (x y : LinkState) :
    (s.offerLink x y).pending = s.pending ∧ (s.offerLink x y).inReset = s.inReset ∧
    (s.offerLink x y).straps = s.straps ∧ (s.offerLink x y).link = s.link ∧ (s.offerLink x y).points = s.points ∧
    (s.offerLink x y).alarm = s.alarm ∧ (s.offerLink x y).desk = s.desk ∧ (s.offerLink x y).cadence = s.cadence ∧
    (s.offerLink x y).composer = s.composer ∧ (s.offerLink x y).loopA = s.loopA ∧
    (s.offerLink x y).loopB = s.loopB ∧ (s.offerLink x y).intensity = s.intensity ∧
    (s.offerLink x y).proving = s.proving ∧ (s.offerLink x y).supervision = s.supervision ∧
    (s.offerLink x y).mode = s.mode ∧ (s.offerLink x y).freeIndex = s.freeIndex := by
  unfold State.offerLink
  simp

@[simp] theorem State.offerOutstation_frame (s : State) (n : Fin 128) (x y : OutstationState) :
    (s.offerOutstation n x y).pending = s.pending ∧ (s.offerOutstation n x y).inReset = s.inReset ∧
    (s.offerOutstation n x y).straps = s.straps ∧ (s.offerOutstation n x y).link = s.link ∧
    (s.offerOutstation n x y).points = s.points ∧ (s.offerOutstation n x y).alarm = s.alarm ∧
    (s.offerOutstation n x y).desk = s.desk ∧ (s.offerOutstation n x y).cadence = s.cadence ∧
    (s.offerOutstation n x y).composer = s.composer ∧ (s.offerOutstation n x y).loopA = s.loopA ∧
    (s.offerOutstation n x y).loopB = s.loopB ∧ (s.offerOutstation n x y).intensity = s.intensity ∧
    (s.offerOutstation n x y).proving = s.proving ∧ (s.offerOutstation n x y).supervision = s.supervision ∧
    (s.offerOutstation n x y).mode = s.mode ∧ (s.offerOutstation n x y).freeIndex = s.freeIndex := by
  unfold State.offerOutstation
  simp

@[simp] theorem State.expireLink_frame (s : State) :
    (s.expireLink).pending = s.pending ∧ (s.expireLink).inReset = s.inReset ∧ (s.expireLink).straps = s.straps ∧
    (s.expireLink).link = s.link ∧ (s.expireLink).points = s.points ∧ (s.expireLink).alarm = s.alarm ∧
    (s.expireLink).desk = s.desk ∧ (s.expireLink).cadence = s.cadence ∧ (s.expireLink).loopA = s.loopA ∧
    (s.expireLink).loopB = s.loopB ∧ (s.expireLink).intensity = s.intensity ∧ (s.expireLink).proving = s.proving ∧
    (s.expireLink).mode = s.mode := by
  generalize h : s.expireLink = t
  unfold State.expireLink at h
  (repeat' split at h) <;> (subst h; simp)

@[simp] theorem State.goodFrame_frame (s : State) :
    (s.goodFrame).pending = s.pending ∧ (s.goodFrame).inReset = s.inReset ∧ (s.goodFrame).straps = s.straps ∧
    (s.goodFrame).link = s.link ∧ (s.goodFrame).points = s.points ∧ (s.goodFrame).alarm = s.alarm ∧
    (s.goodFrame).desk = s.desk ∧ (s.goodFrame).cadence = s.cadence ∧ (s.goodFrame).loopA = s.loopA ∧
    (s.goodFrame).loopB = s.loopB ∧ (s.goodFrame).intensity = s.intensity ∧ (s.goodFrame).proving = s.proving ∧
    (s.goodFrame).mode = s.mode := by
  generalize h : s.goodFrame = t
  unfold State.goodFrame at h
  (repeat' split at h) <;> (subst h; simp)

@[simp] theorem State.expireOutstation_frame (n : Fin 128) (s : State) :
    (s.expireOutstation n).pending = s.pending ∧ (s.expireOutstation n).inReset = s.inReset ∧
    (s.expireOutstation n).straps = s.straps ∧ (s.expireOutstation n).link = s.link ∧
    (s.expireOutstation n).points = s.points ∧ (s.expireOutstation n).alarm = s.alarm ∧
    (s.expireOutstation n).desk = s.desk ∧ (s.expireOutstation n).cadence = s.cadence ∧
    (s.expireOutstation n).loopA = s.loopA ∧ (s.expireOutstation n).loopB = s.loopB ∧
    (s.expireOutstation n).intensity = s.intensity ∧ (s.expireOutstation n).proving = s.proving ∧
    (s.expireOutstation n).mode = s.mode := by
  generalize h : s.expireOutstation n = t
  unfold State.expireOutstation at h
  (repeat' split at h) <;> (subst h; simp)

@[simp] theorem State.refresh_frame (s : State) (n : Fin 128) :
    (s.refresh n).pending = s.pending ∧ (s.refresh n).inReset = s.inReset ∧ (s.refresh n).straps = s.straps ∧
    (s.refresh n).link = s.link ∧ (s.refresh n).points = s.points ∧ (s.refresh n).alarm = s.alarm ∧
    (s.refresh n).desk = s.desk ∧ (s.refresh n).cadence = s.cadence ∧ (s.refresh n).composer = s.composer ∧
    (s.refresh n).loopA = s.loopA ∧ (s.refresh n).loopB = s.loopB ∧ (s.refresh n).intensity = s.intensity ∧
    (s.refresh n).proving = s.proving ∧ (s.refresh n).mode = s.mode ∧ (s.refresh n).freeIndex = s.freeIndex := by
  generalize h : s.refresh n = t
  unfold State.refresh at h
  dsimp only at h
  (repeat' split at h) <;> (subst h; simp)

@[simp] theorem State.storePeriod_frame (s : State) (n : Fin 128) (p : Nat) :
    (s.storePeriod n p).pending = s.pending ∧ (s.storePeriod n p).inReset = s.inReset ∧
    (s.storePeriod n p).straps = s.straps ∧ (s.storePeriod n p).link = s.link ∧
    (s.storePeriod n p).points = s.points ∧ (s.storePeriod n p).alarm = s.alarm ∧
    (s.storePeriod n p).desk = s.desk ∧ (s.storePeriod n p).cadence = s.cadence ∧
    (s.storePeriod n p).loopA = s.loopA ∧ (s.storePeriod n p).loopB = s.loopB ∧
    (s.storePeriod n p).intensity = s.intensity ∧ (s.storePeriod n p).proving = s.proving ∧
    (s.storePeriod n p).mode = s.mode := by
  generalize h : s.storePeriod n p = t
  unfold State.storePeriod at h
  dsimp only at h
  (repeat' split at h) <;> (subst h; simp)

@[simp] theorem State.applyUpdate_frame (s : State) (u : Update) (r : PointRecord) :
    (s.applyUpdate u r).pending = s.pending ∧ (s.applyUpdate u r).inReset = s.inReset ∧
    (s.applyUpdate u r).straps = s.straps ∧ (s.applyUpdate u r).link = s.link ∧ (s.applyUpdate u r).desk = s.desk ∧
    (s.applyUpdate u r).cadence = s.cadence ∧ (s.applyUpdate u r).loopA = s.loopA ∧
    (s.applyUpdate u r).loopB = s.loopB ∧ (s.applyUpdate u r).intensity = s.intensity ∧
    (s.applyUpdate u r).proving = s.proving ∧ (s.applyUpdate u r).mode = s.mode := by
  unfold State.applyUpdate
  simp

/-- The expiries of a list of outstations. -/
@[simp] theorem State.expireFold_frame (ns : List (Fin 128)) : ∀ s : State,
    (ns.foldl (fun t n => t.expireOutstation n) s).pending = s.pending ∧
    (ns.foldl (fun t n => t.expireOutstation n) s).inReset = s.inReset ∧
    (ns.foldl (fun t n => t.expireOutstation n) s).straps = s.straps ∧
    (ns.foldl (fun t n => t.expireOutstation n) s).link = s.link ∧
    (ns.foldl (fun t n => t.expireOutstation n) s).points = s.points ∧
    (ns.foldl (fun t n => t.expireOutstation n) s).alarm = s.alarm ∧
    (ns.foldl (fun t n => t.expireOutstation n) s).desk = s.desk ∧
    (ns.foldl (fun t n => t.expireOutstation n) s).cadence = s.cadence ∧
    (ns.foldl (fun t n => t.expireOutstation n) s).loopA = s.loopA ∧
    (ns.foldl (fun t n => t.expireOutstation n) s).loopB = s.loopB ∧
    (ns.foldl (fun t n => t.expireOutstation n) s).intensity = s.intensity ∧
    (ns.foldl (fun t n => t.expireOutstation n) s).proving = s.proving ∧
    (ns.foldl (fun t n => t.expireOutstation n) s).mode = s.mode := by
  induction ns with
  | nil => intro s; simp
  | cons n ns ih => intro s; simp [ih]

@[simp] theorem State.expireOutstations_frame (s : State) :
    (s.expireOutstations).pending = s.pending ∧ (s.expireOutstations).inReset = s.inReset ∧
    (s.expireOutstations).straps = s.straps ∧ (s.expireOutstations).link = s.link ∧
    (s.expireOutstations).points = s.points ∧ (s.expireOutstations).alarm = s.alarm ∧
    (s.expireOutstations).desk = s.desk ∧ (s.expireOutstations).cadence = s.cadence ∧
    (s.expireOutstations).loopA = s.loopA ∧ (s.expireOutstations).loopB = s.loopB ∧
    (s.expireOutstations).intensity = s.intensity ∧ (s.expireOutstations).proving = s.proving ∧
    (s.expireOutstations).mode = s.mode := by
  unfold State.expireOutstations
  simp

/-! ### The Cadence Unit -/

@[simp] theorem State.followPhase_frame (s : State) (g : Generator) :
    (s.followPhase g).pending = s.pending ∧ (s.followPhase g).inReset = s.inReset ∧
    (s.followPhase g).straps = s.straps ∧ (s.followPhase g).link = s.link ∧ (s.followPhase g).points = s.points ∧
    (s.followPhase g).desk = s.desk ∧ (s.followPhase g).cadence = s.cadence ∧
    (s.followPhase g).composer = s.composer ∧ (s.followPhase g).loopA = s.loopA ∧
    (s.followPhase g).loopB = s.loopB ∧ (s.followPhase g).intensity = s.intensity ∧
    (s.followPhase g).proving = s.proving ∧ (s.followPhase g).supervision = s.supervision ∧
    (s.followPhase g).journal = s.journal ∧ (s.followPhase g).mode = s.mode ∧
    (s.followPhase g).freeIndex = s.freeIndex := by
  generalize h : s.followPhase g = t
  unfold State.followPhase at h
  (repeat' split at h) <;> (subst h; simp)

@[simp] theorem State.expirePrescale_frame (g : Generator) (s : State) :
    (s.expirePrescale g).pending = s.pending ∧ (s.expirePrescale g).inReset = s.inReset ∧
    (s.expirePrescale g).straps = s.straps ∧ (s.expirePrescale g).link = s.link ∧
    (s.expirePrescale g).points = s.points ∧ (s.expirePrescale g).alarm = s.alarm ∧
    (s.expirePrescale g).desk = s.desk ∧ (s.expirePrescale g).composer = s.composer ∧
    (s.expirePrescale g).loopA = s.loopA ∧ (s.expirePrescale g).loopB = s.loopB ∧
    (s.expirePrescale g).intensity = s.intensity ∧ (s.expirePrescale g).proving = s.proving ∧
    (s.expirePrescale g).supervision = s.supervision ∧ (s.expirePrescale g).journal = s.journal ∧
    (s.expirePrescale g).mode = s.mode ∧ (s.expirePrescale g).freeIndex = s.freeIndex := by
  generalize h : s.expirePrescale g = t
  unfold State.expirePrescale at h
  (repeat' split at h) <;> (subst h; simp)

@[simp] theorem State.togglePhase_frame (g : Generator) (s : State) :
    (s.togglePhase g).pending = s.pending ∧ (s.togglePhase g).inReset = s.inReset ∧
    (s.togglePhase g).straps = s.straps ∧ (s.togglePhase g).link = s.link ∧ (s.togglePhase g).points = s.points ∧
    (s.togglePhase g).desk = s.desk ∧ (s.togglePhase g).composer = s.composer ∧ (s.togglePhase g).loopA = s.loopA ∧
    (s.togglePhase g).loopB = s.loopB ∧ (s.togglePhase g).intensity = s.intensity ∧
    (s.togglePhase g).proving = s.proving ∧ (s.togglePhase g).supervision = s.supervision ∧
    (s.togglePhase g).journal = s.journal ∧ (s.togglePhase g).mode = s.mode ∧
    (s.togglePhase g).freeIndex = s.freeIndex := by
  generalize h : s.togglePhase g = t
  unfold State.togglePhase at h
  (repeat' split at h) <;> (subst h; simp)

@[simp] theorem State.settleGenerator_frame (s : State) (g : Generator) :
    (s.settleGenerator g).pending = s.pending ∧ (s.settleGenerator g).inReset = s.inReset ∧
    (s.settleGenerator g).straps = s.straps ∧ (s.settleGenerator g).link = s.link ∧
    (s.settleGenerator g).points = s.points ∧ (s.settleGenerator g).desk = s.desk ∧
    (s.settleGenerator g).composer = s.composer ∧ (s.settleGenerator g).loopA = s.loopA ∧
    (s.settleGenerator g).loopB = s.loopB ∧ (s.settleGenerator g).intensity = s.intensity ∧
    (s.settleGenerator g).proving = s.proving ∧ (s.settleGenerator g).supervision = s.supervision ∧
    (s.settleGenerator g).journal = s.journal ∧ (s.settleGenerator g).mode = s.mode ∧
    (s.settleGenerator g).freeIndex = s.freeIndex := by
  unfold State.settleGenerator
  simp

/-! ### The Mode Controller and the Desk Unit -/

@[simp] theorem State.offerLampTest_frame (s : State) (x : Source) (b : Bool) :
    (s.offerLampTest x b).pending = s.pending ∧ (s.offerLampTest x b).inReset = s.inReset ∧
    (s.offerLampTest x b).straps = s.straps ∧ (s.offerLampTest x b).link = s.link ∧
    (s.offerLampTest x b).points = s.points ∧ (s.offerLampTest x b).alarm = s.alarm ∧
    (s.offerLampTest x b).desk = s.desk ∧ (s.offerLampTest x b).cadence = s.cadence ∧
    (s.offerLampTest x b).composer = s.composer ∧ (s.offerLampTest x b).loopA = s.loopA ∧
    (s.offerLampTest x b).loopB = s.loopB ∧ (s.offerLampTest x b).intensity = s.intensity ∧
    (s.offerLampTest x b).proving = s.proving ∧ (s.offerLampTest x b).supervision = s.supervision ∧
    (s.offerLampTest x b).mode = s.mode ∧ (s.offerLampTest x b).freeIndex = s.freeIndex := by
  unfold State.offerLampTest
  simp

@[simp] theorem State.setLampTest_frame (s : State) (x : Source) (t : Timer) (b : Bool) :
    (s.setLampTest x t b).pending = s.pending ∧ (s.setLampTest x t b).inReset = s.inReset ∧
    (s.setLampTest x t b).straps = s.straps ∧ (s.setLampTest x t b).link = s.link ∧
    (s.setLampTest x t b).points = s.points ∧ (s.setLampTest x t b).alarm = s.alarm ∧
    (s.setLampTest x t b).desk = s.desk ∧ (s.setLampTest x t b).cadence = s.cadence ∧
    (s.setLampTest x t b).composer = s.composer ∧ (s.setLampTest x t b).loopA = s.loopA ∧
    (s.setLampTest x t b).loopB = s.loopB ∧ (s.setLampTest x t b).intensity = s.intensity ∧
    (s.setLampTest x t b).proving = s.proving ∧ (s.setLampTest x t b).supervision = s.supervision ∧
    (s.setLampTest x t b).freeIndex = s.freeIndex := by
  generalize h : s.setLampTest x t b = u
  unfold State.setLampTest at h
  dsimp only at h
  split at h <;> (subst h; simp)

@[simp] theorem State.startDeskHold_frame (s : State) (x : Source) :
    (s.startDeskHold x).pending = s.pending ∧ (s.startDeskHold x).inReset = s.inReset ∧
    (s.startDeskHold x).straps = s.straps ∧ (s.startDeskHold x).link = s.link ∧
    (s.startDeskHold x).points = s.points ∧ (s.startDeskHold x).alarm = s.alarm ∧
    (s.startDeskHold x).desk = s.desk ∧ (s.startDeskHold x).cadence = s.cadence ∧
    (s.startDeskHold x).composer = s.composer ∧ (s.startDeskHold x).loopA = s.loopA ∧
    (s.startDeskHold x).loopB = s.loopB ∧ (s.startDeskHold x).intensity = s.intensity ∧
    (s.startDeskHold x).proving = s.proving ∧ (s.startDeskHold x).supervision = s.supervision ∧
    (s.startDeskHold x).freeIndex = s.freeIndex := by
  unfold State.startDeskHold
  simp

@[simp] theorem State.endDeskHold_frame (s : State) (x : Source) :
    (s.endDeskHold x).pending = s.pending ∧ (s.endDeskHold x).inReset = s.inReset ∧
    (s.endDeskHold x).straps = s.straps ∧ (s.endDeskHold x).link = s.link ∧ (s.endDeskHold x).points = s.points ∧
    (s.endDeskHold x).alarm = s.alarm ∧ (s.endDeskHold x).desk = s.desk ∧ (s.endDeskHold x).cadence = s.cadence ∧
    (s.endDeskHold x).composer = s.composer ∧ (s.endDeskHold x).loopA = s.loopA ∧
    (s.endDeskHold x).loopB = s.loopB ∧ (s.endDeskHold x).intensity = s.intensity ∧
    (s.endDeskHold x).proving = s.proving ∧ (s.endDeskHold x).supervision = s.supervision ∧
    (s.endDeskHold x).freeIndex = s.freeIndex := by
  unfold State.endDeskHold
  simp

@[simp] theorem State.expireHostTimer_frame (s : State) :
    (s.expireHostTimer).pending = s.pending ∧ (s.expireHostTimer).inReset = s.inReset ∧
    (s.expireHostTimer).straps = s.straps ∧ (s.expireHostTimer).link = s.link ∧
    (s.expireHostTimer).points = s.points ∧ (s.expireHostTimer).alarm = s.alarm ∧
    (s.expireHostTimer).desk = s.desk ∧ (s.expireHostTimer).cadence = s.cadence ∧
    (s.expireHostTimer).composer = s.composer ∧ (s.expireHostTimer).loopA = s.loopA ∧
    (s.expireHostTimer).loopB = s.loopB ∧ (s.expireHostTimer).intensity = s.intensity ∧
    (s.expireHostTimer).proving = s.proving ∧ (s.expireHostTimer).supervision = s.supervision ∧
    (s.expireHostTimer).freeIndex = s.freeIndex := by
  generalize h : s.expireHostTimer = t
  unfold State.expireHostTimer at h
  (repeat' split at h) <;> (subst h; simp)

@[simp] theorem State.endTest_frame (s : State) (x : TestState) :
    (s.endTest x).pending = s.pending ∧ (s.endTest x).inReset = s.inReset ∧ (s.endTest x).straps = s.straps ∧
    (s.endTest x).link = s.link ∧ (s.endTest x).points = s.points ∧ (s.endTest x).alarm = s.alarm ∧
    (s.endTest x).desk = s.desk ∧ (s.endTest x).cadence = s.cadence ∧ (s.endTest x).composer = s.composer ∧
    (s.endTest x).loopA = s.loopA ∧ (s.endTest x).loopB = s.loopB ∧ (s.endTest x).intensity = s.intensity ∧
    (s.endTest x).proving = s.proving ∧ (s.endTest x).supervision = s.supervision ∧
    (s.endTest x).freeIndex = s.freeIndex := by
  generalize h : s.endTest x = t
  unfold State.endTest at h
  (repeat' split at h) <;> (subst h; simp)

@[simp] theorem State.closeLoopTest_frame (s : State) :
    (s.closeLoopTest).pending = s.pending ∧ (s.closeLoopTest).inReset = s.inReset ∧
    (s.closeLoopTest).straps = s.straps ∧ (s.closeLoopTest).link = s.link ∧ (s.closeLoopTest).points = s.points ∧
    (s.closeLoopTest).alarm = s.alarm ∧ (s.closeLoopTest).desk = s.desk ∧ (s.closeLoopTest).cadence = s.cadence ∧
    (s.closeLoopTest).composer = s.composer ∧ (s.closeLoopTest).loopA = s.loopA ∧
    (s.closeLoopTest).loopB = s.loopB ∧ (s.closeLoopTest).intensity = s.intensity ∧
    (s.closeLoopTest).proving = s.proving ∧ (s.closeLoopTest).supervision = s.supervision ∧
    (s.closeLoopTest).freeIndex = s.freeIndex := by
  generalize h : s.closeLoopTest = t
  unfold State.closeLoopTest at h
  (repeat' split at h) <;> (subst h; simp)

@[simp] theorem State.completeMemoryTest_frame (s : State) (b : Bool) :
    (s.completeMemoryTest b).pending = s.pending ∧ (s.completeMemoryTest b).inReset = s.inReset ∧
    (s.completeMemoryTest b).straps = s.straps ∧ (s.completeMemoryTest b).link = s.link ∧
    (s.completeMemoryTest b).points = s.points ∧ (s.completeMemoryTest b).alarm = s.alarm ∧
    (s.completeMemoryTest b).desk = s.desk ∧ (s.completeMemoryTest b).cadence = s.cadence ∧
    (s.completeMemoryTest b).composer = s.composer ∧ (s.completeMemoryTest b).loopA = s.loopA ∧
    (s.completeMemoryTest b).loopB = s.loopB ∧ (s.completeMemoryTest b).intensity = s.intensity ∧
    (s.completeMemoryTest b).proving = s.proving ∧ (s.completeMemoryTest b).supervision = s.supervision ∧
    (s.completeMemoryTest b).freeIndex = s.freeIndex := by
  generalize h : s.completeMemoryTest b = t
  unfold State.completeMemoryTest at h
  (repeat' split at h) <;> (subst h; simp)

@[simp] theorem State.clearForMemoryTest_frame (s : State) :
    (s.clearForMemoryTest).pending = s.pending ∧ (s.clearForMemoryTest).inReset = s.inReset ∧
    (s.clearForMemoryTest).straps = s.straps ∧ (s.clearForMemoryTest).link = s.link ∧
    (s.clearForMemoryTest).desk = s.desk ∧ (s.clearForMemoryTest).cadence = s.cadence ∧
    (s.clearForMemoryTest).loopA = s.loopA ∧ (s.clearForMemoryTest).loopB = s.loopB ∧
    (s.clearForMemoryTest).intensity = s.intensity ∧ (s.clearForMemoryTest).supervision = s.supervision ∧
    (s.clearForMemoryTest).mode = s.mode := by
  unfold State.clearForMemoryTest
  simp

@[simp] theorem State.onAckPress_frame (s : State) (b : Bool) :
    (s.onAckPress b).pending = s.pending ∧ (s.onAckPress b).inReset = s.inReset ∧
    (s.onAckPress b).straps = s.straps ∧ (s.onAckPress b).link = s.link ∧ (s.onAckPress b).desk = s.desk ∧
    (s.onAckPress b).cadence = s.cadence ∧ (s.onAckPress b).loopA = s.loopA ∧ (s.onAckPress b).loopB = s.loopB ∧
    (s.onAckPress b).intensity = s.intensity ∧ (s.onAckPress b).proving = s.proving ∧
    (s.onAckPress b).supervision = s.supervision ∧ (s.onAckPress b).mode = s.mode := by
  generalize h : s.onAckPress b = t
  unfold State.onAckPress at h
  (repeat' split at h) <;> (subst h; simp)

@[simp] theorem State.onSilencePress_frame (s : State) (b : Bool) :
    (s.onSilencePress b).pending = s.pending ∧ (s.onSilencePress b).inReset = s.inReset ∧
    (s.onSilencePress b).straps = s.straps ∧ (s.onSilencePress b).link = s.link ∧
    (s.onSilencePress b).points = s.points ∧ (s.onSilencePress b).desk = s.desk ∧
    (s.onSilencePress b).cadence = s.cadence ∧ (s.onSilencePress b).composer = s.composer ∧
    (s.onSilencePress b).loopA = s.loopA ∧ (s.onSilencePress b).loopB = s.loopB ∧
    (s.onSilencePress b).intensity = s.intensity ∧ (s.onSilencePress b).proving = s.proving ∧
    (s.onSilencePress b).supervision = s.supervision ∧ (s.onSilencePress b).mode = s.mode ∧
    (s.onSilencePress b).freeIndex = s.freeIndex := by
  generalize h : s.onSilencePress b = t
  unfold State.onSilencePress at h
  (repeat' split at h) <;> (subst h; simp)

@[simp] theorem State.onLampTestKey_frame (s : State) (a b : Bool) :
    (s.onLampTestKey a b).pending = s.pending ∧ (s.onLampTestKey a b).inReset = s.inReset ∧
    (s.onLampTestKey a b).straps = s.straps ∧ (s.onLampTestKey a b).link = s.link ∧
    (s.onLampTestKey a b).points = s.points ∧ (s.onLampTestKey a b).alarm = s.alarm ∧
    (s.onLampTestKey a b).desk = s.desk ∧ (s.onLampTestKey a b).cadence = s.cadence ∧
    (s.onLampTestKey a b).composer = s.composer ∧ (s.onLampTestKey a b).loopA = s.loopA ∧
    (s.onLampTestKey a b).loopB = s.loopB ∧ (s.onLampTestKey a b).intensity = s.intensity ∧
    (s.onLampTestKey a b).proving = s.proving ∧ (s.onLampTestKey a b).supervision = s.supervision ∧
    (s.onLampTestKey a b).freeIndex = s.freeIndex := by
  generalize h : s.onLampTestKey a b = t
  unfold State.onLampTestKey at h
  (repeat' split at h) <;> (subst h; simp)

@[simp] theorem State.sampleDesk_frame (pins : DeskPins) (s : State) :
    (s.sampleDesk pins).pending = s.pending ∧ (s.sampleDesk pins).inReset = s.inReset ∧
    (s.sampleDesk pins).straps = s.straps ∧ (s.sampleDesk pins).link = s.link ∧
    (s.sampleDesk pins).cadence = s.cadence ∧ (s.sampleDesk pins).loopA = s.loopA ∧
    (s.sampleDesk pins).loopB = s.loopB ∧ (s.sampleDesk pins).intensity = s.intensity ∧
    (s.sampleDesk pins).proving = s.proving ∧ (s.sampleDesk pins).supervision = s.supervision := by
  generalize h : s.sampleDesk pins = t
  unfold State.sampleDesk at h
  (repeat' split at h) <;> (subst h; simp)

@[simp] theorem State.setDeskEnable_frame (s : State) (b : Bool) :
    (s.setDeskEnable b).pending = s.pending ∧ (s.setDeskEnable b).inReset = s.inReset ∧
    (s.setDeskEnable b).straps = s.straps ∧ (s.setDeskEnable b).link = s.link ∧
    (s.setDeskEnable b).points = s.points ∧ (s.setDeskEnable b).alarm = s.alarm ∧
    (s.setDeskEnable b).cadence = s.cadence ∧ (s.setDeskEnable b).composer = s.composer ∧
    (s.setDeskEnable b).loopA = s.loopA ∧ (s.setDeskEnable b).loopB = s.loopB ∧
    (s.setDeskEnable b).intensity = s.intensity ∧ (s.setDeskEnable b).proving = s.proving ∧
    (s.setDeskEnable b).supervision = s.supervision ∧ (s.setDeskEnable b).freeIndex = s.freeIndex := by
  generalize h : s.setDeskEnable b = t
  unfold State.setDeskEnable at h
  (repeat' split at h) <;> (subst h; simp)

@[simp] theorem State.offerMode_frame (s : State) (x y : DeviceMode) :
    (s.offerMode x y).pending = s.pending ∧ (s.offerMode x y).inReset = s.inReset ∧
    (s.offerMode x y).straps = s.straps ∧ (s.offerMode x y).link = s.link ∧ (s.offerMode x y).points = s.points ∧
    (s.offerMode x y).alarm = s.alarm ∧ (s.offerMode x y).desk = s.desk ∧ (s.offerMode x y).cadence = s.cadence ∧
    (s.offerMode x y).composer = s.composer ∧ (s.offerMode x y).loopA = s.loopA ∧
    (s.offerMode x y).loopB = s.loopB ∧ (s.offerMode x y).intensity = s.intensity ∧
    (s.offerMode x y).proving = s.proving ∧ (s.offerMode x y).supervision = s.supervision ∧
    (s.offerMode x y).mode = s.mode ∧ (s.offerMode x y).freeIndex = s.freeIndex := by
  unfold State.offerMode
  simp

/-! ### The Loop Controllers -/

@[simp] theorem State.offerTile_frame (s : State) (l : Loop) (n : Fin 32) (x y : Tile) :
    (s.offerTile l n x y).pending = s.pending ∧ (s.offerTile l n x y).inReset = s.inReset ∧
    (s.offerTile l n x y).straps = s.straps ∧ (s.offerTile l n x y).link = s.link ∧
    (s.offerTile l n x y).points = s.points ∧ (s.offerTile l n x y).alarm = s.alarm ∧
    (s.offerTile l n x y).desk = s.desk ∧ (s.offerTile l n x y).cadence = s.cadence ∧
    (s.offerTile l n x y).composer = s.composer ∧ (s.offerTile l n x y).loopA = s.loopA ∧
    (s.offerTile l n x y).loopB = s.loopB ∧ (s.offerTile l n x y).intensity = s.intensity ∧
    (s.offerTile l n x y).proving = s.proving ∧ (s.offerTile l n x y).supervision = s.supervision ∧
    (s.offerTile l n x y).mode = s.mode ∧ (s.offerTile l n x y).freeIndex = s.freeIndex := by
  generalize h : s.offerTile l n x y = t
  unfold State.offerTile at h
  (repeat' split at h) <;> (subst h; simp)

@[simp] theorem State.startLoop_frame (s : State) (l : Loop) :
    (s.startLoop l).pending = s.pending ∧ (s.startLoop l).inReset = s.inReset ∧ (s.startLoop l).straps = s.straps ∧
    (s.startLoop l).link = s.link ∧ (s.startLoop l).points = s.points ∧ (s.startLoop l).alarm = s.alarm ∧
    (s.startLoop l).desk = s.desk ∧ (s.startLoop l).cadence = s.cadence ∧ (s.startLoop l).intensity = s.intensity ∧
    (s.startLoop l).proving = s.proving ∧ (s.startLoop l).supervision = s.supervision ∧
    (s.startLoop l).journal = s.journal ∧ (s.startLoop l).mode = s.mode ∧
    (s.startLoop l).freeIndex = s.freeIndex := by
  unfold State.startLoop
  simp

@[simp] theorem State.resumeLoop_frame (s : State) (l : Loop) :
    (s.resumeLoop l).pending = s.pending ∧ (s.resumeLoop l).inReset = s.inReset ∧
    (s.resumeLoop l).straps = s.straps ∧ (s.resumeLoop l).link = s.link ∧ (s.resumeLoop l).points = s.points ∧
    (s.resumeLoop l).alarm = s.alarm ∧ (s.resumeLoop l).desk = s.desk ∧ (s.resumeLoop l).cadence = s.cadence ∧
    (s.resumeLoop l).intensity = s.intensity ∧ (s.resumeLoop l).proving = s.proving ∧
    (s.resumeLoop l).supervision = s.supervision ∧ (s.resumeLoop l).journal = s.journal ∧
    (s.resumeLoop l).mode = s.mode ∧ (s.resumeLoop l).freeIndex = s.freeIndex := by
  generalize h : s.resumeLoop l = t
  unfold State.resumeLoop at h
  dsimp only at h
  (repeat' split at h) <;> (subst h; simp)

@[simp] theorem State.loopOnline_frame (s : State) (l : Loop) :
    (s.loopOnline l).pending = s.pending ∧ (s.loopOnline l).inReset = s.inReset ∧
    (s.loopOnline l).straps = s.straps ∧ (s.loopOnline l).link = s.link ∧ (s.loopOnline l).points = s.points ∧
    (s.loopOnline l).alarm = s.alarm ∧ (s.loopOnline l).desk = s.desk ∧ (s.loopOnline l).cadence = s.cadence ∧
    (s.loopOnline l).intensity = s.intensity ∧ (s.loopOnline l).proving = s.proving ∧
    (s.loopOnline l).supervision = s.supervision ∧ (s.loopOnline l).journal = s.journal ∧
    (s.loopOnline l).mode = s.mode ∧ (s.loopOnline l).freeIndex = s.freeIndex := by
  generalize h : s.loopOnline l = t
  unfold State.loopOnline at h
  (repeat' split at h) <;> (subst h; simp)

@[simp] theorem State.stopLoop_frame (s : State) (l : Loop) :
    (s.stopLoop l).pending = s.pending ∧ (s.stopLoop l).inReset = s.inReset ∧ (s.stopLoop l).straps = s.straps ∧
    (s.stopLoop l).link = s.link ∧ (s.stopLoop l).points = s.points ∧ (s.stopLoop l).alarm = s.alarm ∧
    (s.stopLoop l).desk = s.desk ∧ (s.stopLoop l).cadence = s.cadence ∧ (s.stopLoop l).intensity = s.intensity ∧
    (s.stopLoop l).proving = s.proving ∧ (s.stopLoop l).supervision = s.supervision ∧
    (s.stopLoop l).journal = s.journal ∧ (s.stopLoop l).mode = s.mode ∧ (s.stopLoop l).freeIndex = s.freeIndex := by
  unfold State.stopLoop
  simp

@[simp] theorem State.loopOffline_frame (s : State) (l : Loop) :
    (s.loopOffline l).pending = s.pending ∧ (s.loopOffline l).inReset = s.inReset ∧
    (s.loopOffline l).straps = s.straps ∧ (s.loopOffline l).link = s.link ∧ (s.loopOffline l).points = s.points ∧
    (s.loopOffline l).alarm = s.alarm ∧ (s.loopOffline l).desk = s.desk ∧ (s.loopOffline l).cadence = s.cadence ∧
    (s.loopOffline l).intensity = s.intensity ∧ (s.loopOffline l).proving = s.proving ∧
    (s.loopOffline l).supervision = s.supervision ∧ (s.loopOffline l).journal = s.journal ∧
    (s.loopOffline l).mode = s.mode ∧ (s.loopOffline l).freeIndex = s.freeIndex := by
  generalize h : s.loopOffline l = t
  unfold State.loopOffline at h
  (repeat' split at h) <;> (subst h; simp)

@[simp] theorem State.expireFrameTimer_frame (l : Loop) (s : State) :
    (s.expireFrameTimer l).pending = s.pending ∧ (s.expireFrameTimer l).inReset = s.inReset ∧
    (s.expireFrameTimer l).straps = s.straps ∧ (s.expireFrameTimer l).link = s.link ∧
    (s.expireFrameTimer l).points = s.points ∧ (s.expireFrameTimer l).alarm = s.alarm ∧
    (s.expireFrameTimer l).desk = s.desk ∧ (s.expireFrameTimer l).cadence = s.cadence ∧
    (s.expireFrameTimer l).composer = s.composer ∧ (s.expireFrameTimer l).intensity = s.intensity ∧
    (s.expireFrameTimer l).proving = s.proving ∧ (s.expireFrameTimer l).supervision = s.supervision ∧
    (s.expireFrameTimer l).journal = s.journal ∧ (s.expireFrameTimer l).mode = s.mode ∧
    (s.expireFrameTimer l).freeIndex = s.freeIndex := by
  generalize h : s.expireFrameTimer l = t
  unfold State.expireFrameTimer at h
  (repeat' split at h) <;> (subst h; simp)

/-- The TILE entries of a list of slots. -/
@[simp] theorem State.offerTiles_frame (l : Loop) (f g : Fin 32 → Tile) (ns : List (Fin 32)) : ∀ s : State,
    (ns.foldl (fun t n => t.offerTile l n (f n) (g n)) s).pending = s.pending ∧
    (ns.foldl (fun t n => t.offerTile l n (f n) (g n)) s).inReset = s.inReset ∧
    (ns.foldl (fun t n => t.offerTile l n (f n) (g n)) s).straps = s.straps ∧
    (ns.foldl (fun t n => t.offerTile l n (f n) (g n)) s).link = s.link ∧
    (ns.foldl (fun t n => t.offerTile l n (f n) (g n)) s).points = s.points ∧
    (ns.foldl (fun t n => t.offerTile l n (f n) (g n)) s).alarm = s.alarm ∧
    (ns.foldl (fun t n => t.offerTile l n (f n) (g n)) s).desk = s.desk ∧
    (ns.foldl (fun t n => t.offerTile l n (f n) (g n)) s).cadence = s.cadence ∧
    (ns.foldl (fun t n => t.offerTile l n (f n) (g n)) s).composer = s.composer ∧
    (ns.foldl (fun t n => t.offerTile l n (f n) (g n)) s).loopA = s.loopA ∧
    (ns.foldl (fun t n => t.offerTile l n (f n) (g n)) s).loopB = s.loopB ∧
    (ns.foldl (fun t n => t.offerTile l n (f n) (g n)) s).intensity = s.intensity ∧
    (ns.foldl (fun t n => t.offerTile l n (f n) (g n)) s).proving = s.proving ∧
    (ns.foldl (fun t n => t.offerTile l n (f n) (g n)) s).supervision = s.supervision ∧
    (ns.foldl (fun t n => t.offerTile l n (f n) (g n)) s).mode = s.mode ∧
    (ns.foldl (fun t n => t.offerTile l n (f n) (g n)) s).freeIndex = s.freeIndex := by
  induction ns with
  | nil => intro s; simp
  | cons n ns ih => intro s; simp [ih]

@[simp] theorem State.offerLatched_frame (s : State) (l : Loop) (b : Bank 32 Tile) :
    (s.offerLatched l b).pending = s.pending ∧ (s.offerLatched l b).inReset = s.inReset ∧
    (s.offerLatched l b).straps = s.straps ∧ (s.offerLatched l b).link = s.link ∧
    (s.offerLatched l b).points = s.points ∧ (s.offerLatched l b).alarm = s.alarm ∧
    (s.offerLatched l b).desk = s.desk ∧ (s.offerLatched l b).cadence = s.cadence ∧
    (s.offerLatched l b).composer = s.composer ∧ (s.offerLatched l b).loopA = s.loopA ∧
    (s.offerLatched l b).loopB = s.loopB ∧ (s.offerLatched l b).intensity = s.intensity ∧
    (s.offerLatched l b).proving = s.proving ∧ (s.offerLatched l b).supervision = s.supervision ∧
    (s.offerLatched l b).mode = s.mode ∧ (s.offerLatched l b).freeIndex = s.freeIndex := by
  unfold State.offerLatched
  simp

@[simp] theorem State.sendHeader_frame (s : State) (l : Loop) :
    (s.sendHeader l).pending = s.pending ∧ (s.sendHeader l).inReset = s.inReset ∧
    (s.sendHeader l).straps = s.straps ∧ (s.sendHeader l).link = s.link ∧ (s.sendHeader l).points = s.points ∧
    (s.sendHeader l).alarm = s.alarm ∧ (s.sendHeader l).desk = s.desk ∧ (s.sendHeader l).cadence = s.cadence ∧
    (s.sendHeader l).composer = s.composer ∧ (s.sendHeader l).intensity = s.intensity ∧
    (s.sendHeader l).proving = s.proving ∧ (s.sendHeader l).supervision = s.supervision ∧
    (s.sendHeader l).journal = s.journal ∧ (s.sendHeader l).mode = s.mode ∧
    (s.sendHeader l).freeIndex = s.freeIndex := by
  generalize h : s.sendHeader l = t
  unfold State.sendHeader at h
  (repeat' split at h) <;> (subst h; simp)

@[simp] theorem State.startNormalFrame_frame (s : State) (l : Loop) :
    (s.startNormalFrame l).pending = s.pending ∧ (s.startNormalFrame l).inReset = s.inReset ∧
    (s.startNormalFrame l).straps = s.straps ∧ (s.startNormalFrame l).link = s.link ∧
    (s.startNormalFrame l).points = s.points ∧ (s.startNormalFrame l).alarm = s.alarm ∧
    (s.startNormalFrame l).desk = s.desk ∧ (s.startNormalFrame l).cadence = s.cadence ∧
    (s.startNormalFrame l).intensity = s.intensity ∧ (s.startNormalFrame l).proving = s.proving ∧
    (s.startNormalFrame l).supervision = s.supervision ∧ (s.startNormalFrame l).mode = s.mode ∧
    (s.startNormalFrame l).freeIndex = s.freeIndex := by
  generalize h : s.startNormalFrame l = t
  unfold State.startNormalFrame at h
  dsimp only at h
  split at h <;> (subst h; simp)

@[simp] theorem State.startTestFrame_frame (s : State) (l : Loop) :
    (s.startTestFrame l).pending = s.pending ∧ (s.startTestFrame l).inReset = s.inReset ∧
    (s.startTestFrame l).straps = s.straps ∧ (s.startTestFrame l).link = s.link ∧
    (s.startTestFrame l).points = s.points ∧ (s.startTestFrame l).alarm = s.alarm ∧
    (s.startTestFrame l).desk = s.desk ∧ (s.startTestFrame l).cadence = s.cadence ∧
    (s.startTestFrame l).composer = s.composer ∧ (s.startTestFrame l).intensity = s.intensity ∧
    (s.startTestFrame l).proving = s.proving ∧ (s.startTestFrame l).supervision = s.supervision ∧
    (s.startTestFrame l).journal = s.journal ∧ (s.startTestFrame l).mode = s.mode ∧
    (s.startTestFrame l).freeIndex = s.freeIndex := by
  unfold State.startTestFrame
  simp

@[simp] theorem State.startFrame_frame (l : Loop) (s : State) :
    (s.startFrame l).pending = s.pending ∧ (s.startFrame l).inReset = s.inReset ∧
    (s.startFrame l).straps = s.straps ∧ (s.startFrame l).link = s.link ∧ (s.startFrame l).points = s.points ∧
    (s.startFrame l).alarm = s.alarm ∧ (s.startFrame l).desk = s.desk ∧ (s.startFrame l).cadence = s.cadence ∧
    (s.startFrame l).intensity = s.intensity ∧ (s.startFrame l).proving = s.proving ∧
    (s.startFrame l).supervision = s.supervision ∧ (s.startFrame l).mode = s.mode ∧
    (s.startFrame l).freeIndex = s.freeIndex := by
  generalize h : s.startFrame l = t
  unfold State.startFrame at h
  (repeat' split at h) <;> (subst h; simp)

@[simp] theorem State.endTransfer_frame (s : State) (l : Loop) (t : Transfer) (n : Fin 32) (r : List (Fin 32)) (v : Bool) :
    (s.endTransfer l t n r v).pending = s.pending ∧ (s.endTransfer l t n r v).inReset = s.inReset ∧
    (s.endTransfer l t n r v).straps = s.straps ∧ (s.endTransfer l t n r v).link = s.link ∧
    (s.endTransfer l t n r v).points = s.points ∧ (s.endTransfer l t n r v).alarm = s.alarm ∧
    (s.endTransfer l t n r v).desk = s.desk ∧ (s.endTransfer l t n r v).cadence = s.cadence ∧
    (s.endTransfer l t n r v).composer = s.composer ∧ (s.endTransfer l t n r v).intensity = s.intensity ∧
    (s.endTransfer l t n r v).proving = s.proving ∧ (s.endTransfer l t n r v).supervision = s.supervision ∧
    (s.endTransfer l t n r v).journal = s.journal ∧ (s.endTransfer l t n r v).mode = s.mode ∧
    (s.endTransfer l t n r v).freeIndex = s.freeIndex := by
  unfold State.endTransfer; simp

@[simp] theorem State.compareSlot_frame (s : State) (r : SlotReport) :
    (s.compareSlot r).pending = s.pending ∧ (s.compareSlot r).inReset = s.inReset ∧
    (s.compareSlot r).straps = s.straps ∧ (s.compareSlot r).link = s.link ∧ (s.compareSlot r).points = s.points ∧
    (s.compareSlot r).alarm = s.alarm ∧ (s.compareSlot r).desk = s.desk ∧ (s.compareSlot r).cadence = s.cadence ∧
    (s.compareSlot r).composer = s.composer ∧ (s.compareSlot r).loopA = s.loopA ∧
    (s.compareSlot r).loopB = s.loopB ∧ (s.compareSlot r).intensity = s.intensity ∧
    (s.compareSlot r).supervision = s.supervision ∧ (s.compareSlot r).mode = s.mode ∧
    (s.compareSlot r).freeIndex = s.freeIndex := by
  generalize h : s.compareSlot r = t
  unfold State.compareSlot at h
  dsimp only at h
  (repeat' split at h) <;> (subst h; simp)

@[simp] theorem State.runningSlotEnd_frame (s : State) (l : Loop) (n : Fin 32) (r : Option TileReply) :
    (s.runningSlotEnd l n r).pending = s.pending ∧ (s.runningSlotEnd l n r).inReset = s.inReset ∧
    (s.runningSlotEnd l n r).straps = s.straps ∧ (s.runningSlotEnd l n r).link = s.link ∧
    (s.runningSlotEnd l n r).points = s.points ∧ (s.runningSlotEnd l n r).alarm = s.alarm ∧
    (s.runningSlotEnd l n r).desk = s.desk ∧ (s.runningSlotEnd l n r).cadence = s.cadence ∧
    (s.runningSlotEnd l n r).composer = s.composer ∧ (s.runningSlotEnd l n r).intensity = s.intensity ∧
    (s.runningSlotEnd l n r).supervision = s.supervision ∧ (s.runningSlotEnd l n r).mode = s.mode ∧
    (s.runningSlotEnd l n r).freeIndex = s.freeIndex := by
  unfold State.runningSlotEnd
  simp

@[simp] theorem State.testingSlotEnd_frame (s : State) (l : Loop) (n : Fin 32) (r : Option TileReply) :
    (s.testingSlotEnd l n r).pending = s.pending ∧ (s.testingSlotEnd l n r).inReset = s.inReset ∧
    (s.testingSlotEnd l n r).straps = s.straps ∧ (s.testingSlotEnd l n r).link = s.link ∧
    (s.testingSlotEnd l n r).points = s.points ∧ (s.testingSlotEnd l n r).alarm = s.alarm ∧
    (s.testingSlotEnd l n r).desk = s.desk ∧ (s.testingSlotEnd l n r).cadence = s.cadence ∧
    (s.testingSlotEnd l n r).composer = s.composer ∧ (s.testingSlotEnd l n r).loopA = s.loopA ∧
    (s.testingSlotEnd l n r).loopB = s.loopB ∧ (s.testingSlotEnd l n r).intensity = s.intensity ∧
    (s.testingSlotEnd l n r).proving = s.proving ∧ (s.testingSlotEnd l n r).supervision = s.supervision ∧
    (s.testingSlotEnd l n r).journal = s.journal ∧ (s.testingSlotEnd l n r).freeIndex = s.freeIndex := by
  unfold State.testingSlotEnd
  simp

@[simp] theorem State.endSlot_frame (s : State) (l : Loop) (w : List RxChar) :
    (s.endSlot l w).pending = s.pending ∧ (s.endSlot l w).inReset = s.inReset ∧ (s.endSlot l w).straps = s.straps ∧
    (s.endSlot l w).link = s.link ∧ (s.endSlot l w).points = s.points ∧ (s.endSlot l w).alarm = s.alarm ∧
    (s.endSlot l w).desk = s.desk ∧ (s.endSlot l w).cadence = s.cadence ∧ (s.endSlot l w).composer = s.composer ∧
    (s.endSlot l w).intensity = s.intensity ∧ (s.endSlot l w).supervision = s.supervision ∧
    (s.endSlot l w).freeIndex = s.freeIndex := by
  generalize h : s.endSlot l w = t
  unfold State.endSlot at h
  dsimp only at h
  (repeat' split at h) <;> (subst h; simp)

@[simp] theorem State.endTestFrame_frame (s : State) (l : Loop) :
    (s.endTestFrame l).pending = s.pending ∧ (s.endTestFrame l).inReset = s.inReset ∧
    (s.endTestFrame l).straps = s.straps ∧ (s.endTestFrame l).link = s.link ∧ (s.endTestFrame l).points = s.points ∧
    (s.endTestFrame l).alarm = s.alarm ∧ (s.endTestFrame l).desk = s.desk ∧ (s.endTestFrame l).cadence = s.cadence ∧
    (s.endTestFrame l).intensity = s.intensity ∧ (s.endTestFrame l).proving = s.proving ∧
    (s.endTestFrame l).supervision = s.supervision ∧ (s.endTestFrame l).freeIndex = s.freeIndex := by
  generalize h : s.endTestFrame l = t
  unfold State.endTestFrame at h
  dsimp only at h
  split at h <;> (subst h; simp)

@[simp] theorem State.endFrame_frame (s : State) (l : Loop) :
    (s.endFrame l).pending = s.pending ∧ (s.endFrame l).inReset = s.inReset ∧ (s.endFrame l).straps = s.straps ∧
    (s.endFrame l).link = s.link ∧ (s.endFrame l).points = s.points ∧ (s.endFrame l).alarm = s.alarm ∧
    (s.endFrame l).desk = s.desk ∧ (s.endFrame l).cadence = s.cadence ∧ (s.endFrame l).intensity = s.intensity ∧
    (s.endFrame l).proving = s.proving ∧ (s.endFrame l).supervision = s.supervision ∧
    (s.endFrame l).freeIndex = s.freeIndex := by
  generalize h : s.endFrame l = t
  unfold State.endFrame at h
  (repeat' split at h) <;> (subst h; simp)

@[simp] theorem State.startLoopTest_frame (s : State) (l : Loop) :
    (s.startLoopTest l).pending = s.pending ∧ (s.startLoopTest l).inReset = s.inReset ∧
    (s.startLoopTest l).straps = s.straps ∧ (s.startLoopTest l).link = s.link ∧
    (s.startLoopTest l).points = s.points ∧ (s.startLoopTest l).alarm = s.alarm ∧
    (s.startLoopTest l).desk = s.desk ∧ (s.startLoopTest l).cadence = s.cadence ∧
    (s.startLoopTest l).composer = s.composer ∧ (s.startLoopTest l).intensity = s.intensity ∧
    (s.startLoopTest l).proving = s.proving ∧ (s.startLoopTest l).supervision = s.supervision ∧
    (s.startLoopTest l).journal = s.journal ∧ (s.startLoopTest l).mode = s.mode ∧
    (s.startLoopTest l).freeIndex = s.freeIndex := by
  unfold State.startLoopTest
  simp

@[simp] theorem State.abortLoop_frame (s : State) (l : Loop) :
    (s.abortLoop l).pending = s.pending ∧ (s.abortLoop l).inReset = s.inReset ∧ (s.abortLoop l).straps = s.straps ∧
    (s.abortLoop l).link = s.link ∧ (s.abortLoop l).points = s.points ∧ (s.abortLoop l).alarm = s.alarm ∧
    (s.abortLoop l).desk = s.desk ∧ (s.abortLoop l).cadence = s.cadence ∧ (s.abortLoop l).intensity = s.intensity ∧
    (s.abortLoop l).proving = s.proving ∧ (s.abortLoop l).supervision = s.supervision ∧
    (s.abortLoop l).journal = s.journal ∧ (s.abortLoop l).mode = s.mode ∧
    (s.abortLoop l).freeIndex = s.freeIndex := by
  generalize h : s.abortLoop l = t
  unfold State.abortLoop at h
  (repeat' split at h) <;> (subst h; simp)

@[simp] theorem State.abortTest_frame (s : State) :
    (s.abortTest).pending = s.pending ∧ (s.abortTest).inReset = s.inReset ∧ (s.abortTest).straps = s.straps ∧
    (s.abortTest).link = s.link ∧ (s.abortTest).points = s.points ∧ (s.abortTest).alarm = s.alarm ∧
    (s.abortTest).desk = s.desk ∧ (s.abortTest).cadence = s.cadence ∧ (s.abortTest).intensity = s.intensity ∧
    (s.abortTest).proving = s.proving ∧ (s.abortTest).supervision = s.supervision ∧
    (s.abortTest).freeIndex = s.freeIndex := by
  generalize h : s.abortTest = t
  unfold State.abortTest at h
  dsimp only at h
  (repeat' split at h) <;> (subst h; simp)

/-! ### What is due, and the receiver -/

@[simp] theorem State.expireGap_frame (s : State) :
    (s.expireGap).pending = s.pending ∧ (s.expireGap).inReset = s.inReset ∧ (s.expireGap).straps = s.straps ∧
    (s.expireGap).points = s.points ∧ (s.expireGap).alarm = s.alarm ∧ (s.expireGap).desk = s.desk ∧
    (s.expireGap).cadence = s.cadence ∧ (s.expireGap).composer = s.composer ∧ (s.expireGap).loopA = s.loopA ∧
    (s.expireGap).loopB = s.loopB ∧ (s.expireGap).intensity = s.intensity ∧ (s.expireGap).proving = s.proving ∧
    (s.expireGap).supervision = s.supervision ∧ (s.expireGap).journal = s.journal ∧ (s.expireGap).mode = s.mode ∧
    (s.expireGap).freeIndex = s.freeIndex := by
  generalize h : s.expireGap = t
  unfold State.expireGap at h
  (repeat' split at h) <;> (subst h; simp)

@[simp] theorem State.followUps_frame (s : State) :
    (s.followUps).pending = s.pending ∧ (s.followUps).inReset = s.inReset ∧ (s.followUps).straps = s.straps ∧
    (s.followUps).link = s.link ∧ (s.followUps).points = s.points ∧ (s.followUps).desk = s.desk ∧
    (s.followUps).intensity = s.intensity ∧ (s.followUps).proving = s.proving ∧
    (s.followUps).supervision = s.supervision ∧ (s.followUps).mode = s.mode ∧
    (s.followUps).freeIndex = s.freeIndex := by
  unfold State.followUps State.frameNow
  simp

@[simp] theorem State.atOnce_frame (s : State) :
    (s.atOnce).pending = s.pending ∧ (s.atOnce).inReset = s.inReset ∧ (s.atOnce).straps = s.straps ∧
    (s.atOnce).link = s.link ∧ (s.atOnce).points = s.points ∧ (s.atOnce).desk = s.desk ∧
    (s.atOnce).intensity = s.intensity ∧ (s.atOnce).proving = s.proving ∧ (s.atOnce).supervision = s.supervision ∧
    (s.atOnce).mode = s.mode ∧ (s.atOnce).freeIndex = s.freeIndex := by
  unfold State.atOnce State.timerNow State.frameNow
  simp

@[simp] theorem State.judgeFrame_frame (s : State) (b : Byte) :
    (s.judgeFrame b).pending = s.pending ∧ (s.judgeFrame b).inReset = s.inReset ∧
    (s.judgeFrame b).straps = s.straps ∧ (s.judgeFrame b).points = s.points ∧ (s.judgeFrame b).alarm = s.alarm ∧
    (s.judgeFrame b).desk = s.desk ∧ (s.judgeFrame b).cadence = s.cadence ∧ (s.judgeFrame b).loopA = s.loopA ∧
    (s.judgeFrame b).loopB = s.loopB ∧ (s.judgeFrame b).intensity = s.intensity ∧
    (s.judgeFrame b).proving = s.proving ∧ (s.judgeFrame b).mode = s.mode := by
  generalize h : s.judgeFrame b = t
  unfold State.judgeFrame at h
  dsimp only at h
  split at h <;> (subst h; simp)

@[simp] theorem State.receive_frame (c : RxChar) (s : State) :
    (s.receive c).pending = s.pending ∧ (s.receive c).inReset = s.inReset ∧ (s.receive c).straps = s.straps ∧
    (s.receive c).points = s.points ∧ (s.receive c).alarm = s.alarm ∧ (s.receive c).desk = s.desk ∧
    (s.receive c).cadence = s.cadence ∧ (s.receive c).loopA = s.loopA ∧ (s.receive c).loopB = s.loopB ∧
    (s.receive c).intensity = s.intensity ∧ (s.receive c).proving = s.proving ∧ (s.receive c).mode = s.mode := by
  generalize h : s.receive c = t
  unfold State.receive at h
  (repeat' split at h) <;> (subst h; simp)

end Sys2Proof.Machine
end

