-- ==== Sys2Proof/Laws/Lists.lean ====
section
/-!
SUPPORT. What the two list operations of the journal and of the Annunciation List give: the room made by a discard,
and the members of a list after an arrival, a removal or a mark.
-/

namespace Sys2Proof.Machine

/-! ### The journal's discard (R156) -/

/-- What the discard keeps is the newest part of the ring. -/
theorem makeRoom_suffix (d : Nat) (ring : List JournalEntry) : makeRoom d ring <:+ ring := by
  induction ring with
  | nil => exact List.suffix_refl _
  | cons e rest ih =>
    unfold makeRoom
    split
    · exact ih.trans (List.suffix_cons e rest)
    · exact List.suffix_refl _

/-- After the discard the ring has a place. -/
theorem makeRoom_length (d : Nat) (ring : List JournalEntry) : (makeRoom d ring).length < Config.ringCapacity := by
  induction ring with
  | nil => exact Nat.lt_of_lt_of_eq (by decide : 0 < 256) rfl
  | cons e rest ih =>
    unfold makeRoom
    split
    · exact ih
    · next h => exact Nat.lt_of_not_le fun hle => h (.inl hle)

/-- After the discard the detail store has the room asked for, unless the ring is empty. -/
theorem makeRoom_items (d : Nat) (ring : List JournalEntry) :
    makeRoom d ring = [] ∨ itemsHeld (makeRoom d ring) + d ≤ Config.detailCapacity := by
  induction ring with
  | nil => exact .inl rfl
  | cons e rest ih =>
    unfold makeRoom
    split
    · exact ih
    · next h => exact .inr (Nat.le_of_not_lt fun hlt => h (.inr hlt))

/-- The items of two parts of a ring add up. -/
theorem itemsHeld_append (a b : List JournalEntry) : itemsHeld (a ++ b) = itemsHeld a + itemsHeld b := by
  induction a with
  | nil => simp [itemsHeld]
  | cons e rest ih => simp [itemsHeld, ih, Nat.add_assoc]

/-- An offer appends one entry or changes nothing. -/
theorem State.offer_cases (s : State) (o : Offer) :
    (s.journal.records o = true ∧ s.offer o = { s with journal := s.journal.append s.cadence.time o }) ∨
      (s.journal.records o = false ∧ s.offer o = s) := by
  unfold State.offer
  cases s.journal.records o <;> simp

/-! ### The Annunciation List (R33 to R36) -/

/-- An arrival adds the entry and keeps the others. -/
theorem insertArrival_perm (e : AnnEntry) (list : List AnnEntry) : (insertArrival e list).Perm (e :: list) := by
  induction list with
  | nil => exact List.Perm.refl _
  | cons x rest ih =>
    unfold insertArrival
    split
    · exact List.Perm.refl _
    · exact (ih.cons x).trans (List.Perm.swap e x rest)

/-- The members after an arrival. -/
theorem mem_insertArrival {e x : AnnEntry} {list : List AnnEntry} :
    x ∈ insertArrival e list ↔ x = e ∨ x ∈ list := by
  rw [(insertArrival_perm e list).mem_iff, List.mem_cons]

/-- The members after a removal. -/
theorem mem_removePoint {p : Nat} {x : AnnEntry} {list : List AnnEntry} :
    x ∈ removePoint p list ↔ x ∈ list ∧ x.point ≠ p := by
  simp [removePoint]

/-- A mark leaves the points of the list, and so their order, as they are. -/
theorem markPoint_points (p : Nat) (list : List AnnEntry) :
    (markPoint p list).map AnnEntry.point = list.map AnnEntry.point := by
  simp only [markPoint, List.map_map]
  apply List.map_congr_left
  intro e _
  simp only [Function.comp_apply]
  split <;> rfl

/-- A mark leaves the priorities of the list as they are. -/
theorem markPoint_priorities (p : Nat) (list : List AnnEntry) :
    (markPoint p list).map AnnEntry.priority = list.map AnnEntry.priority := by
  simp only [markPoint, List.map_map]
  apply List.map_congr_left
  intro e _
  simp only [Function.comp_apply]
  split <;> rfl

end Sys2Proof.Machine
end

