-- ==== Sys2Proof/Laws/State.lean ====
section
/-!
SUPPORT. What each single update of the state gives the field it changes, and how loops, generators and requests are
read back. What an update leaves as it was stands in Frames.lean.
-/

namespace Sys2Proof.Machine

/-! ### The changed field -/

@[simp] theorem State.withPoint_points (s : State) (p : Nat) (r : PointRecord) :
    (s.withPoint p r).points = { s.points with table := s.points.table.put p r } := rfl

@[simp] theorem State.withLink_supervision (s : State) (r : LinkRecord) :
    (s.withLink r).supervision = { s.supervision with link := r } := rfl

@[simp] theorem State.withOutstation_supervision (s : State) (n : Fin 128) (o : Outstation) :
    (s.withOutstation n o).supervision =
      { s.supervision with outstations := s.supervision.outstations.put n o } := rfl

@[simp] theorem State.withGenerator_cadence (s : State) (g : Generator) (x : CadenceGenerator) :
    (s.withGenerator g x).cadence = s.cadence.withGenerator g x := rfl

@[simp] theorem State.withDevice_mode (s : State) (d : DeviceMode) :
    (s.withDevice d).mode = { s.mode with device := d } := rfl

@[simp] theorem State.askCompose_composer (s : State) (l : Loop) : (s.askCompose l).composer = s.composer.ask l := rfl

@[simp] theorem State.withList_list (s : State) (list : List AnnEntry) : (s.withList list).alarm.list = list := rfl

@[simp] theorem State.withList_threshold (s : State) (list : List AnnEntry) :
    (s.withList list).alarm.threshold = s.alarm.threshold := rfl

@[simp] theorem State.deriveHorn_list (s : State) : s.deriveHorn.alarm.list = s.alarm.list := rfl

@[simp] theorem State.deriveHorn_threshold (s : State) : s.deriveHorn.alarm.threshold = s.alarm.threshold := rfl

@[simp] theorem State.deriveHorn_horn (s : State) :
    s.deriveHorn.alarm.horn = hornOf s.inReset s.mode.device s.alarm.list := rfl

@[simp] theorem State.deriveHorn_hornPin (s : State) :
    s.deriveHorn.alarm.hornPin =
      hornSignal (hornOf s.inReset s.mode.device s.alarm.list) s.cadence.fast.phase := rfl

@[simp] theorem State.sendReply_queue (s : State) (k : Byte) (x : Status) (p : List Byte) (r : Bool) :
    (s.sendReply k x p r).link.queue = s.link.queue := rfl

@[simp] theorem State.sendReply_queueLost (s : State) (k : Byte) (x : Status) (p : List Byte) (r : Bool) :
    (s.sendReply k x p r).link.queueLost = false := rfl

@[simp] theorem State.sendReply_reply (s : State) (k : Byte) (x : Status) (p : List Byte) (r : Bool) :
    (s.sendReply k x p r).link.reply =
      some (Reply.ofFrame (frameOf (k :: x.code :: replyFlags s.link.queueLost s.journal.attn :: p)) r) := rfl

@[simp] theorem State.sendReply_receiver (s : State) (k : Byte) (x : Status) (p : List Byte) (r : Bool) :
    (s.sendReply k x p r).link.receiver = s.link.receiver ∧ (s.sendReply k x p r).link.buffer = s.link.buffer ∧
    (s.sendReply k x p r).link.gap = s.link.gap := ⟨rfl, rfl, rfl⟩

/-! ### Loops, generators, requests -/

@[simp] theorem State.loop_withLoop (s : State) (l : Loop) (c : LoopController) : (s.withLoop l c).loop l = c := by
  cases l <;> rfl

theorem State.loop_withLoop_other (s : State) (l m : Loop) (c : LoopController) (h : m ≠ l) :
    (s.withLoop l c).loop m = s.loop m := by
  cases l <;> cases m <;> first | rfl | exact absurd rfl h

@[simp] theorem State.withLoop_loop (s : State) (l : Loop) : s.withLoop l (s.loop l) = s := by
  cases l <;> rfl

@[simp] theorem State.withLoop_withLoop (s : State) (l : Loop) (c d : LoopController) :
    (s.withLoop l c).withLoop l d = s.withLoop l d := by
  cases l <;> rfl

@[simp] theorem CadenceUnit.generator_withGenerator (c : CadenceUnit) (g : Generator) (x : CadenceGenerator) :
    (c.withGenerator g x).generator g = x := by
  cases g <;> rfl

theorem CadenceUnit.generator_withGenerator_other (c : CadenceUnit) (g h : Generator) (x : CadenceGenerator)
    (ne : h ≠ g) : (c.withGenerator g x).generator h = c.generator h := by
  cases g <;> cases h <;> first | rfl | exact absurd rfl ne

@[simp] theorem CadenceUnit.withGenerator_time (c : CadenceUnit) (g : Generator) (x : CadenceGenerator) :
    (c.withGenerator g x).time = c.time := by
  cases g <;> rfl

@[simp] theorem Composer.request_withRequest (c : Composer) (l : Loop) (q : ComposeRequest) :
    (c.withRequest l q).request l = q := by
  cases l <;> rfl

theorem Composer.request_withRequest_other (c : Composer) (l m : Loop) (q : ComposeRequest) (h : m ≠ l) :
    (c.withRequest l q).request m = c.request m := by
  cases l <;> cases m <;> first | rfl | exact absurd rfl h

@[simp] theorem Composer.withRequest_pass (c : Composer) (l : Loop) (q : ComposeRequest) :
    (c.withRequest l q).pass = c.pass := by
  cases l <;> rfl

@[simp] theorem Composer.withRequest_lastServed (c : Composer) (l : Loop) (q : ComposeRequest) :
    (c.withRequest l q).lastServed = c.lastServed := by
  cases l <;> rfl

/-! ### Points -/

@[simp] theorem State.point?_eq (s : State) (p : Nat) : s.point? p = s.points.table.get? p := rfl

end Sys2Proof.Machine
end

