-- ==== Sys2Proof/Laws/Service.lean ====
section
/-!
SUPPORT. When nothing is due: a command is its own effect, and a request is its service.
-/

namespace Sys2Proof.Machine

theorem State.expirePrescale_undue {s : State} {g : Generator} (h : s.prescaleDue g = false) :
    s.expirePrescale g = s := by
  simp [State.expirePrescale, h]

theorem State.togglePhase_undue {s : State} {g : Generator} (h : s.toggleDue g = false) : s.togglePhase g = s := by
  simp [State.togglePhase, h]

theorem State.expireFrameTimer_undue {s : State} {l : Loop} (h : s.frameTimerDue l = false) :
    s.expireFrameTimer l = s := by
  simp [State.expireFrameTimer, h]

theorem State.startFrame_undue {s : State} {l : Loop} (h : s.frameStartDue l = false) : s.startFrame l = s := by
  simp [State.startFrame, h]

theorem State.startPass_undue {s : State} (h : s.passDue = false) : s.startPass = s := by
  simp [State.startPass, h]

/-- With nothing to follow, nothing follows. -/
theorem State.followUps_of_ready {s : State} (h : s.ready = true) : s.followUps = s := by
  simp only [State.ready, Bool.and_eq_true, Bool.not_eq_true'] at h
  obtain ⟨⟨⟨⟨⟨tf, ts⟩, tw⟩, sa⟩, sb⟩, pd⟩ := h
  simp [State.followUps, State.frameNow, State.togglePhase_undue tf, State.togglePhase_undue ts,
    State.togglePhase_undue tw, State.startFrame_undue sa, State.startFrame_undue sb, State.startPass_undue pd]

theorem State.ready_of_quiet {s : State} (h : s.quiet = true) : s.ready = true := by
  simp only [State.quiet, Bool.and_eq_true] at h
  exact h.1.1.1.1.1

/-- With nothing due at once, nothing happens at once. -/
theorem State.atOnce_of_quiet {s : State} (h : s.quiet = true) : s.atOnce = s := by
  have r := State.ready_of_quiet h
  have f := State.followUps_of_ready r
  simp only [State.quiet, State.ready, Bool.and_eq_true, Bool.not_eq_true'] at h
  obtain ⟨⟨⟨⟨⟨⟨⟨⟨⟨⟨tf, ts⟩, tw⟩, sa⟩, sb⟩, pd⟩, pf⟩, ps⟩, pw⟩, fa⟩, fb⟩ := h
  simp [State.atOnce, f, State.settleGenerator, State.timerNow, State.frameNow, State.expirePrescale_undue pf,
    State.expirePrescale_undue ps, State.expirePrescale_undue pw, State.togglePhase_undue tf,
    State.togglePhase_undue ts, State.togglePhase_undue tw, State.expireFrameTimer_undue fa,
    State.expireFrameTimer_undue fb, State.startFrame_undue sa, State.startFrame_undue sb, State.startPass_undue pd]

theorem State.expireLink_undue {s : State} (h : s.linkDue = false) : s.expireLink = s := by
  simp [State.expireLink, h]

theorem State.expireOutstation_undue {s : State} {n : Fin 128} (h : s.outstationDue n = false) :
    s.expireOutstation n = s := by
  simp [State.expireOutstation, h]

theorem State.expireGap_undue {s : State} (h : s.gapDue = false) : s.expireGap = s := by
  simp [State.expireGap, h]

theorem State.expireHostTimer_undue {s : State} (h : s.hostTimerDue = false) : s.expireHostTimer = s := by
  simp [State.expireHostTimer, h]

theorem State.sampleDesk_undue {s : State} {pins : DeskPins} (h : s.sampleDue = false) : s.sampleDesk pins = s := by
  simp [State.sampleDesk, h]

theorem State.expireOutstations_undue {s : State} (h : ∀ n, s.outstationDue n = false) :
    s.expireOutstations = s := by
  have fold : ∀ ns : List (Fin 128), ns.foldl (fun t n => t.expireOutstation n) s = s := by
    intro ns
    induction ns with
    | nil => rfl
    | cons n ns ih => rw [List.foldl_cons, State.expireOutstation_undue (h n), ih]
  exact fold _

/-- With no service due, none begins. -/
theorem State.beginService_undue {s : State} (h : s.serviceDue = false) : s.beginService = s := by
  simp only [State.serviceDue, Bool.and_eq_false_iff, Bool.not_eq_false', List.isEmpty_iff] at h
  rcases h with h | h <;> simp [State.beginService, h]

/-- A service that begins takes the head item from the queue first (R178, R179). -/
theorem State.beginService_of_head {s : State} {item : QueueItem} {rest : List QueueItem} (t : s.txdIdle = true)
    (q : s.link.queue = item :: rest) :
    s.beginService = ({ s with link := { s.link with queue := rest } }).serveItem item := by
  simp [State.beginService, t, q]

/-- With no expiry of the last tick waiting and no service due, the next tick finds nothing to take first. -/
theorem State.beforeTick_of_settled {s : State} (h : s.settled = true) (r : s.ready = true) : s.beforeTick = s := by
  simp only [State.settled, Bool.and_eq_true, Bool.not_eq_true', List.all_eq_true] at h
  obtain ⟨⟨⟨⟨⟨l, o⟩, g⟩, t⟩, d⟩, q⟩ := h
  have o' : ∀ n, s.outstationDue n = false := fun n => o n (List.mem_finRange n)
  simp [State.beforeTick, State.expireLink_undue l, State.expireOutstations_undue o', State.expireGap_undue g,
    State.expireHostTimer_undue t, State.sampleDesk_undue d, State.beginService_undue q, State.followUps_of_ready r]

/-- A command taken outside RESET is its effect. -/
theorem State.takes_of_running {s : State} (h : s.inReset = false) (f : State → State) : s.takes f = .next (f s) := by
  simp [State.takes, h]

/-- A command taken by an attending part is its effect. -/
theorem State.takesAfterDue_of_attends {s : State} (h : s.attends = true) (f : State → State) :
    s.takesAfterDue f = .next (f s) := by
  simp only [State.attends, Bool.and_eq_true, Bool.not_eq_true'] at h
  simp [State.takesAfterDue, State.takes, h.1, State.atOnce_of_quiet h.2]

/-- An event of a tick, taken when nothing is left to follow an earlier event, is its effect. -/
theorem State.takesAfterFollowUps_of_takesExpiries {s : State} (h : s.takesExpiries = true) (f : State → State) :
    s.takesAfterFollowUps f = .next (f s) := by
  simp only [State.takesExpiries, Bool.and_eq_true, Bool.not_eq_true'] at h
  simp [State.takesAfterFollowUps, State.takes, h.1, State.followUps_of_ready h.2]

/-- An event that follows another at once, taken with no pass start due, is its effect. -/
theorem State.takesAfterPassStart_of_undue {s : State} (r : s.inReset = false) (p : s.passDue = false)
    (f : State → State) : s.takesAfterPassStart f = .next (f s) := by
  simp [State.takesAfterPassStart, State.takes, r, State.startPass_undue p]

/-- A request to a serving part is its service. -/
theorem State.request_of_serves {s : State} (h : s.serves = true) (c : Instr) (r : Request) :
    s.request c r = .next (s.serve r) := by
  simp only [State.serves, Bool.and_eq_true] at h
  rw [State.request, State.takesAfterDue_of_attends h.1]
  simp [h.2]

/-- A request whose body is `body`, to a part that is sending a reply or has items waiting, joins the queue. -/
theorem State.request_waits {s : State} {c : Instr} {body : List Byte} (h : s.attends = true)
    (i : s.linkIdle = false) (b : requestBody c = some body) (r : Request) :
    s.request c r = .next { s with link := s.link.offerItem (.request body) } := by
  rw [State.request, State.takesAfterDue_of_attends h]
  simp [i, State.await, b]

/-- An open part serves. -/
theorem State.serves_of_open {s : State} (h : s.open = true) : s.serves = true := by
  simp only [State.open, Bool.and_eq_true] at h
  exact h.1

/-- In an open part no test is on. -/
theorem State.testOn_of_open {s : State} (h : s.open = true) : s.mode.testOn = false := by
  simp only [State.open, Bool.and_eq_true, Bool.not_eq_true'] at h
  exact h.2

/-- Outside a test, a request of an allowed length reaches its owner. -/
theorem State.gate_passes {s : State} {r : Request} (t : s.mode.testOn = false) (z : r.sized = true) :
    s.gate r = r.owner s := by
  simp [State.gate, t, z]

/-- A request that passes during tests reaches its owner whatever the test state. -/
theorem State.gate_passes_always {s : State} {r : Request} (d : r.duringTest = true) (z : r.sized = true) :
    s.gate r = r.owner s := by
  simp [State.gate, d, z]

/-- During a test any other request is answered BUSY. -/
theorem State.gate_busy {s : State} {r : Request} (t : s.mode.testOn = true) (d : r.duringTest = false) :
    s.gate r = s.refuse .busy := by
  simp [State.gate, t, d]

/-- The reply to an answer whose status is OK. -/
theorem Answer.reply_ok (u : State) (payload : List Byte) (kind : Byte) (h : kind ≠ resetKind) :
    (Answer.reply ⟨u, .ok, payload⟩ kind) = u.sendReply (kind + 0x80) .ok payload false := by
  simp [Answer.reply, h]

/-- The reply to a refusal. -/
theorem Answer.reply_refused (s : State) (x : Status) (kind : Byte) (h : x ≠ .ok) :
    (s.refuse x).reply kind = s.sendReply (kind + 0x80) x [] false := by
  simp [Answer.reply, State.refuse, h]

/-- A request of an allowed length to an open part is answered by its owner. -/
theorem State.request_answers {s : State} (o : s.open = true) (c : Instr) {r : Request} (z : r.sized = true) :
    s.request c r = .next ((r.owner s).reply r.kind) := by
  rw [State.request_of_serves (State.serves_of_open o) c r, State.serve, State.gate_passes (State.testOn_of_open o) z]

/-- A request that its owner takes is answered OK with the payload. -/
theorem State.request_taken {s u : State} {r : Request} {payload : List Byte} (o : s.open = true)
    (c : Instr) (z : r.sized = true) (k : r.kind ≠ resetKind) (a : r.owner s = ⟨u, .ok, payload⟩) :
    s.request c r = .next (u.sendReply (r.kind + 0x80) .ok payload false) := by
  rw [State.request_answers o c z, a, Answer.reply_ok u payload r.kind k]

/-- A request that its owner refuses is answered with the status alone, and changes nothing. -/
theorem State.request_refused {s : State} {r : Request} {x : Status} (o : s.open = true) (c : Instr)
    (z : r.sized = true) (n : x ≠ .ok) (a : r.owner s = s.refuse x) :
    s.request c r = .next (s.sendReply (r.kind + 0x80) x [] false) := by
  rw [State.request_answers o c z, a, Answer.reply_refused s x r.kind n]

/-- A serving or open part is not in reset. -/
theorem State.running_of_attends {s : State} (h : s.attends = true) : s.inReset = false := by
  simp only [State.attends, Bool.and_eq_true, Bool.not_eq_true'] at h
  exact h.1

theorem State.attends_of_serves {s : State} (h : s.serves = true) : s.attends = true := by
  simp only [State.serves, Bool.and_eq_true] at h
  exact h.1

theorem State.running_of_open {s : State} (h : s.open = true) : s.inReset = false :=
  State.running_of_attends (State.attends_of_serves (State.serves_of_open h))

end Sys2Proof.Machine
end

