-- ==== Sys2Proof/Laws/Tables.lean ====
section
/-!
SUPPORT. Banks and sparse tables: what a write gives to later reads, and that every operation keeps a table's canonical
form.
-/

namespace Sys2Proof.Machine

/-! ### Banks -/

theorem Bank.ext_get {n : Nat} {α : Type} {a b : Bank n α} (h : ∀ i, a.get i = b.get i) : a = b := by
  cases a with | mk xs hx => cases b with | mk ys hy =>
  have e : xs = ys := by
    apply List.ext_getElem (hx.trans hy.symm)
    intro i h1 h2
    exact h ⟨i, hx ▸ h1⟩
  subst e
  rfl

@[simp] theorem Bank.get_put_same {n : Nat} {α : Type} (b : Bank n α) (i : Fin n) (a : α) :
    (b.put i a).get i = a := by
  simp [Bank.get, Bank.put]

theorem Bank.get_put {n : Nat} {α : Type} (b : Bank n α) (i j : Fin n) (a : α) :
    (b.put i a).get j = if i = j then a else b.get j := by
  simp only [Bank.get, Bank.put, List.getElem_set]
  by_cases h : i = j
  · subst h; simp
  · rw [if_neg h, if_neg (fun e => h (Fin.ext e))]

theorem Bank.get_put_other {n : Nat} {α : Type} (b : Bank n α) {i j : Fin n} (a : α) (h : i ≠ j) :
    (b.put i a).get j = b.get j := by
  rw [Bank.get_put, if_neg h]

@[simp] theorem Bank.get_map {n : Nat} {α β : Type} (f : α → β) (b : Bank n α) (i : Fin n) :
    (b.map f).get i = f (b.get i) := by
  simp [Bank.get, Bank.map]

@[simp] theorem Bank.get_make {n : Nat} {α : Type} (f : Fin n → α) (i : Fin n) : (Bank.make f).get i = f i := by
  simp [Bank.get, Bank.make]

@[simp] theorem Bank.get_fill {n : Nat} {α : Type} (a : α) (i : Fin n) : (Bank.fill n a).get i = a := by
  simp [Bank.get, Bank.fill]

/-! ### Sparse tables: reads after writes -/

@[simp] theorem Sparse.get?_empty {α : Type} (k : Nat) : (Sparse.empty : Sparse α).get? k = none := rfl

theorem Sparse.find_insert {α : Type} (k j : Nat) (a : α) (cells : List (Nat × α)) :
    Sparse.find (Sparse.insert k a cells) j = if k = j then some a else Sparse.find cells j := by
  induction cells with
  | nil => simp [Sparse.insert, Sparse.find]
  | cons c rest ih =>
    obtain ⟨i, b⟩ := c
    simp only [Sparse.insert]
    split
    · simp [Sparse.find]
    · split
      · rename_i h
        subst h
        by_cases e : k = j <;> simp [Sparse.find, e]
      · rename_i h1 h2
        simp only [Sparse.find, ih]
        by_cases e : i = j
        · have : ¬ k = j := fun x => h2 (x.trans e.symm)
          simp [e, this]
        · simp [e]

@[simp] theorem Sparse.get?_put {α : Type} (t : Sparse α) (k j : Nat) (a : α) :
    (t.put k a).get? j = if k = j then some a else t.get? j :=
  Sparse.find_insert k j a t.cells

theorem Sparse.find_filter {α : Type} (k j : Nat) (cells : List (Nat × α)) :
    Sparse.find (cells.filter fun c => c.1 != k) j = if k = j then none else Sparse.find cells j := by
  induction cells with
  | nil => simp [Sparse.find]
  | cons c rest ih =>
    obtain ⟨i, b⟩ := c
    by_cases e : i = k
    · subst e
      simp only [List.filter_cons, bne_self_eq_false, Bool.false_eq_true, if_false, ih, Sparse.find]
      by_cases h : i = j <;> simp [h]
    · have : (i != k) = true := by simp [e]
      simp only [List.filter_cons, this, if_true, Sparse.find, ih]
      by_cases h : i = j
      · have : ¬ k = j := fun x => e (h.trans x.symm)
        simp [h, this]
      · simp [h]

@[simp] theorem Sparse.get?_erase {α : Type} (t : Sparse α) (k j : Nat) :
    (t.erase k).get? j = if k = j then none else t.get? j :=
  Sparse.find_filter k j t.cells

theorem Sparse.find_map {α : Type} (f : α → α) (j : Nat) (cells : List (Nat × α)) :
    Sparse.find (cells.map fun c => (c.1, f c.2)) j = (Sparse.find cells j).map f := by
  induction cells with
  | nil => rfl
  | cons c rest ih =>
    obtain ⟨i, b⟩ := c
    by_cases h : i = j <;> simp [Sparse.find, h, ih]

@[simp] theorem Sparse.get?_map {α : Type} (f : α → α) (t : Sparse α) (j : Nat) :
    (t.map f).get? j = (t.get? j).map f :=
  Sparse.find_map f j t.cells

/-! ### The canonical form -/

theorem Sparse.wf_empty {α : Type} : (Sparse.empty : Sparse α).wf := List.Pairwise.nil

theorem Sparse.keys_insert {α : Type} (k : Nat) (a : α) (cells : List (Nat × α)) :
    ∀ j ∈ (Sparse.insert k a cells).map Prod.fst, j = k ∨ j ∈ cells.map Prod.fst := by
  induction cells with
  | nil => simp [Sparse.insert]
  | cons c rest ih =>
    obtain ⟨i, b⟩ := c
    simp only [Sparse.insert]
    split
    · simp
    · split
      · rename_i h; subst h; simp
      · intro j hj
        simp only [List.map_cons, List.mem_cons] at hj ⊢
        rcases hj with h | h
        · exact Or.inr (Or.inl h)
        · rcases ih j h with h | h
          · exact Or.inl h
          · exact Or.inr (Or.inr h)

theorem Sparse.pairwise_insert {α : Type} (k : Nat) (a : α) (cells : List (Nat × α))
    (h : (cells.map Prod.fst).Pairwise (· < ·)) : ((Sparse.insert k a cells).map Prod.fst).Pairwise (· < ·) := by
  induction cells with
  | nil => simp [Sparse.insert]
  | cons c rest ih =>
    obtain ⟨i, b⟩ := c
    simp only [List.map_cons, List.pairwise_cons] at h
    simp only [Sparse.insert]
    split
    · rename_i lt
      simp only [List.map_cons, List.pairwise_cons, List.mem_cons]
      refine ⟨?_, h.1, h.2⟩
      intro j hj
      rcases hj with e | e
      · omega
      · have := h.1 j e; omega
    · split
      · rename_i e
        subst e
        simp only [List.map_cons, List.pairwise_cons]
        exact ⟨h.1, h.2⟩
      · rename_i n1 n2
        simp only [List.map_cons, List.pairwise_cons]
        refine ⟨?_, ih h.2⟩
        intro j hj
        rcases Sparse.keys_insert k a rest j hj with e | e
        · omega
        · exact h.1 j e

theorem Sparse.wf_put {α : Type} (t : Sparse α) (k : Nat) (a : α) (h : t.wf) : (t.put k a).wf :=
  Sparse.pairwise_insert k a t.cells h

theorem Sparse.wf_erase {α : Type} (t : Sparse α) (k : Nat) (h : t.wf) : (t.erase k).wf :=
  h.sublist (List.Sublist.map Prod.fst List.filter_sublist)

theorem Sparse.wf_map {α : Type} (f : α → α) (t : Sparse α) (h : t.wf) : (t.map f).wf := by
  have e : (t.cells.map fun c => (c.1, f c.2)).map Prod.fst = t.cells.map Prod.fst := by
    simp [List.map_map, Function.comp_def]
  unfold Sparse.wf Sparse.map
  rw [e]
  exact h

end Sys2Proof.Machine
end

