-- ==== Sys2Proof/WellFormed.lean ====
section
/-!
DEFINITION. Which commands can come about at all: a request whose body fits the 1024 bytes of a frame (R176), and a
slot end whose characters fit the 235 bit times of its reply window (R183). The meanings do not rest on it: an
ill-formed request is refused with FORMAT like any other of a wrong size.
-/

namespace Sys2Proof

/-- A body of a kind byte and `payload` bytes fits a frame (R176). -/
def bodyFits (payload : Nat) : Bool :=
  1 + payload ≤ 1024

/-- The commands the part can meet. -/
def Instr.wellFormed : Instr → Bool
  | .definePoint d => bodyFits (8 + 2 * d.lamps.length)
  | .updatePoints us => bodyFits (3 * us.length)
  | .setOutstationPeriods _ ps => bodyFits (1 + 2 * ps.length)
  | .siteHeartbeat os => bodyFits os.length
  | .setJournalSelection vs => bodyFits vs.length
  | .slotEnd _ window => window.length * 10 ≤ 235
  | .readStatus | .setModeOnline | .setModeOffline | .reset | .softwareReset | .runTest _ => true
  | .memoryTestCompletion _ | .abortTest | .readTestResults | .deletePoint _ | .readPoint _ => true
  | .forcePoint _ _ | .releasePoint _ | .inhibitPoint _ | .enablePoint _ | .acknowledge _ _ => true
  | .silence | .readAnnunciation _ _ | .setHornThreshold _ | .setDeskControl _ _ | .deskSample _ => true
  | .tick | .prescaleExpiry _ | .phaseToggle _ | .setCadence _ _ _ _ _ | .setTime _ => true
  | .passStart | .passCompletion | .frameTimerExpiry _ | .frameStart _ | .frameEnd _ => true
  | .configureTile _ _ _ _ | .setLoopTiming _ _ | .setIntensity _ | .readLoopStatus _ => true
  | .lampTest _ | .hostTimerExpiry | .readLampFaults _ | .linkCountdownExpiry => true
  | .outstationCountdownExpiry _ | .setSupervision _ _ | .readOutstations _ _ | .readJournal _ => true
  | .characterReceived _ | .gapTimerExpiry | .serviceBegin | .hardwareResetAssert => true
  | .hardwareResetNegation _ => true

end Sys2Proof
end

