-- ==== Sys2Proof/Tests/Slice0.lean ====
section
/-!
SUPPORT. The writer's own tests: the well-formedness checks on ill-formed commands, a few single steps against values
written out from the manual, and for every statement with hypotheses the states and operands that meet them.
-/

namespace Sys2Proof.Tests

set_option Elab.async false

open Sys2Proof Sys2Proof.Machine

/-! ### Small states -/

/-- The part after a hardware reset. -/
def base : State := State.reset

/-- The part ONLINE, both loops RUNNING, no frame in transfer, no compose request outstanding. -/
def online : State :=
  { base with
    mode := { base.mode with device := .online }
    loopA := { base.loopA with state := .running, timer := .counting 40 }
    loopB := { base.loopB with state := .running, timer := .counting 40 } }

/-- A STATUS point on one lamp, outstation 3, section 2. -/
def statusRecord : PointRecord :=
  ⟨.status, 3, 2, 1, false, false, [10], none, none, none, none⟩

/-- An ALARM point with ring-back on two lamps, outstation 3, section 2, priority 1. -/
def alarmRecord : PointRecord :=
  ⟨.alarm, 3, 2, 1, true, false, [20, 21], some 0, none, some .normal, some 5⟩

/-- A BAND point on three lamps. -/
def bandRecord : PointRecord :=
  ⟨.band, 3, 2, 1, false, false, [30, 31, 32], some 3, none, none, some 5⟩

/-- The record with an alarm state. -/
def standing (a : AlarmState) : PointRecord :=
  { alarmRecord with live := some 1, alarm := some a }

/-- A state with point 0 STATUS, point 5 the given ALARM record and point 2047 BAND. -/
def withPoints (s : State) (r : PointRecord) : State :=
  { s with points :=
    ⟨⟨[(0, statusRecord), (5, r), (2047, bandRecord)]⟩,
      ⟨[(10, 0), (20, 5), (21, 5), (30, 2047), (31, 2047), (32, 2047)]⟩⟩ }

/-- The entry of point 5. -/
def entry5 : AnnEntry := ⟨5, 1, 2, 7, true⟩

/-- Point 5 in ALARM_UNACK and in the list, HORN as Table 2-8 gives it. -/
def alarmed (s : State) : State :=
  (withPoints s (standing .alarmUnack)).withList [entry5]

/-- The part with a test record. -/
def testing (kind : TestKind) (state : TestState) : State :=
  { base with mode := { base.mode with test := ⟨kind, state, 0, 0, Bank.fill 64 .notTested, false⟩ } }

/-- Tile 0 enabled with 64 outputs. -/
def tileOn (state : TileState) : Bank 32 Tile :=
  (Bank.fill 32 Tile.initial).put 0 ⟨.s64, true, state, 0, 0, false⟩

/-- A loop controller with tile 0 and its slot in transfer, or with the last slot transfer ended. -/
def inFrame (state : LoopState) (kind : FrameKind) (remaining : List (Fin 32)) : LoopController :=
  { base.loopA with
    state := state
    timer := .counting 40
    tiles := tileOn .present
    latched := (Bank.fill 32 none).put 0 (some .s64)
    transfer := some ⟨kind, 12, remaining⟩ }

/-- A loop test with loop A in a TEST frame. -/
def inTest (remaining : List (Fin 32)) : State :=
  { testing .loop .running with
    loopA := inFrame .testing .test remaining
    loopB := { base.loopB with state := .testing, timer := .counting 40 } }

/-- The pins with every key released and the selector at 0. -/
def released : DeskPins := DeskPins.released

/-- A pass of loop A that has composed 64 lamps. -/
def pass : Pass := ⟨.a, false, .lit, .lit, .lit, false, 12, 64, Bank.fill 32 0⟩

/-- A composer with that pass in flight. -/
def passing : State :=
  { online with composer := ⟨some pass, .a, .inFlight, .none, none⟩ }

/-- The characters of a valid reply of a 64-output tile, with no drive fault and every sense flag clear. -/
def reply64 : List RxChar :=
  [⟨0x3C, true⟩, ⟨64, true⟩, ⟨0, true⟩] ++ List.replicate 8 ⟨0, true⟩

/-- A DEFINE POINT of an undefined ALARM point 6 on lamps 40 and 4095. -/
def define6 : DefineArgs := ⟨6, 1, 3, 2, 1, 1, 2, [40, 4095]⟩

/-- The state a command leaves. -/
def after (c : Instr) (s : State) : State :=
  match exec c s with
  | .next t => t
  | .fault _ => s
  | .refused _ => s

/-- The body of the reply in transmission: what stands between the length and the check. -/
def replyBody (s : State) : List Byte :=
  match s.link.reply with
  | some r => (r.frame.drop 3).take (r.frame.length - 5)
  | none => []

/-! ### Well-formedness: an ill-formed command for each check -/

theorem test_define_that_fits_no_frame : Instr.wellFormed (.definePoint ⟨0, 0, 0, 0, 0, 0, 1, List.replicate 508 0⟩) = false := by
  decide +kernel

theorem test_updates_that_fit_no_frame : Instr.wellFormed (.updatePoints (List.replicate 342 ⟨0, 0⟩)) = false := by
  decide +kernel

theorem test_periods_that_fit_no_frame : Instr.wellFormed (.setOutstationPeriods 0 (List.replicate 512 0)) = false := by
  decide +kernel

theorem test_heartbeats_that_fit_no_frame : Instr.wellFormed (.siteHeartbeat (List.replicate 1024 0)) = false := by
  decide +kernel

theorem test_selections_that_fit_no_frame : Instr.wellFormed (.setJournalSelection (List.replicate 1024 0)) = false := by
  decide +kernel

theorem test_window_of_twenty_four_characters : Instr.wellFormed (.slotEnd .a (List.replicate 24 ⟨0, true⟩)) = false := by
  decide

theorem test_the_largest_commands_are_well_formed :
    Instr.wellFormed (.definePoint ⟨0, 0, 0, 0, 0, 0, 8, List.replicate 507 0⟩) = true ∧
      Instr.wellFormed (.updatePoints (List.replicate 341 ⟨0, 0⟩)) = true ∧
      Instr.wellFormed (.slotEnd .b (List.replicate 23 ⟨0, true⟩)) = true := by
  decide +kernel

/-! ### The link -/

theorem test_crc_of_read_status : crc16 [0x00, 0x01, 0x01] = 0xEF8C := by decide +kernel

theorem test_frame_of_read_status : frameOf [0x01] = [0xA5, 0x00, 0x01, 0x01, 0xEF, 0x8C] := by decide +kernel

theorem test_read_status_arrives_in_the_queue :
    let t := (frameOf [0x01]).foldl (fun u b => u.receive ⟨b, true⟩) base
    t.link.queue = [.request [0x01]] ∧ t.link.receiver = .hunt := by decide +kernel

theorem test_bad_check_is_rejected :
    let t := ([0xA5, 0x00, 0x01, 0x01, 0xEF, 0x8D] : List Byte).foldl (fun u b => u.receive ⟨b, true⟩) base
    t.link.queue = [.rejectCheck] := by decide +kernel

theorem test_levels_of_a_character :
    lineBits [0xA5] = [false, true, false, true, false, false, true, false, true, true] := by decide

theorem test_transmission_ends_at_the_rate_of_the_straps :
    let s : State := { base with link := { base.link with reply := some (Reply.ofFrame [0xA5] false) } }
    let t := after .tick s
    s.txdIdle = false ∧ t.link.reply.map Reply.left = some 400 ∧ (after .tick t).txdIdle = false ∧
      (after .tick (after .tick t)).txdIdle = true := by decide +kernel

/-! ### Single steps against written-out values -/

theorem test_read_status_after_reset :
    replyBody (after .readStatus base) =
      [0x81, 0x00, 0x02, 0x4B, 0x10, 0x00, 1, 0, 0, 0, 0, 0, 0, 0, 0, 0, 0, 0, 0, 0, 0, 1, 0, 0] := by
  decide +kernel

theorem test_unknown_kind_is_answered_unknown :
    replyBody (after .serviceBegin { base with link := { base.link with queue := [.request [0x7F]] } }) =
      [0xFF, 0x03, 0x02] := by decide +kernel

theorem test_define_point_makes_the_alarm_record :
    (after (.definePoint define6) base).point? 6 =
      some ⟨.alarm, 3, 2, 1, true, false, [40, 4095], none, none, some .normal, none⟩ := by decide +kernel

theorem test_update_raises_an_alarm :
    let t := after (.updatePoints [⟨5, 1⟩]) (withPoints online alarmRecord)
    t.alarm.list = [⟨5, 1, 2, 0, true⟩] ∧ t.alarm.horn = .pulsed ∧ t.alarm.hornPin = true ∧
      replyBody t = [0x93, 0x00, 0x02, 1, 0xFF] := by decide +kernel

theorem test_acknowledge_empties_the_list :
    let t := after (.acknowledge 2 0) (alarmed online)
    t.alarm.list = [] ∧ t.alarm.horn = .quiet ∧ (t.point? 5).bind PointRecord.alarm = some .alarmAck ∧
      replyBody t = [0xA0, 0x00, 0x02, 0, 1] := by decide +kernel

theorem test_silence_counts_the_marks :
    let t := after .silence (alarmed online)
    t.alarm.horn = .quiet ∧ replyBody t = [0xA1, 0x00, 0x02, 0, 1] := by decide +kernel

theorem test_read_annunciation_lays_out_an_entry :
    replyBody (after (.readAnnunciation 0 128) (alarmed online)) =
      [0xA2, 0x00, 0x02, 0, 1, 1, 0x40, 5, 0x62, 0, 0, 0, 7] := by decide +kernel

theorem test_read_journal_returns_the_reset_entry :
    let t := after (.readJournal 16) base
    t.journal.ring = [] ∧ t.journal.attn = false ∧
      replyBody t = [0xD0, 0x00, 0x00, 1, 0, 0] ++ [0, 0, 0, 0, 0, 0, 0, 0, 8, 6, 0, 0, 0, 0xFF, 0x80, 0] := by
  decide +kernel

theorem test_set_mode_online_starts_both_loops :
    let t := after .setModeOnline base
    t.loopA.state = .running ∧ t.loopB.state = .running ∧ t.composer.requestA = .waiting ∧
      t.composer.requestB = .waiting ∧ t.composer.elected = some .a := by decide +kernel

/-- The pins with the LAMP TEST key held, its pin LOW. -/
def lampKeyHeld : DeskPins := { released with lampTest := false }

theorem test_pass_starts_before_the_desk_sample :
    let key : State :=
      { base with desk := { base.desk with timer := .expired, lampTest := ⟨false, some true, 2⟩ } }
    let t := after (.deskSample lampKeyHeld) (after .setModeOnline key)
    t.mode.deskHold = true ∧ t.composer.pass.map Pass.lampTest = some false ∧ t.composer.requestA = .inFlight := by
  decide +kernel

theorem test_request_waits_for_the_transmitter :
    let s := after .readStatus base
    let t := after (.setIntensity 3) s
    t.link.queue = [.request [0x32, 3]] ∧ t.intensity = 12 ∧ (after .serviceBegin t).link = t.link ∧
      (after .serviceBegin { t with link := { t.link with reply := none } }).intensity = 3 := by decide +kernel

theorem test_request_waits_behind_the_queue :
    let s : State := { base with link := { base.link with queue := [.rejectCheck] } }
    (after .readStatus s).link.queue = [.rejectCheck, .request [0x01]] ∧ (after .readStatus s).link.reply = none := by
  decide +kernel

theorem test_tick_counts :
    let t := after .tick base
    t.cadence.time = 1 ∧ t.cadence.fast.prescaleCounter = .counting 9 ∧ t.desk.timer = .counting 3 := by
  decide +kernel

theorem test_frame_start_sends_the_header :
    let s : State := { online with loopA := { online.loopA with startPending := true, tiles := tileOn .disabled } }
    let t := after (.frameStart .a) s
    t.loopA.line = [0x7E, 0, 12, 0, 0, 0, 0, 0, 0, 0, 0, 0] ∧ (t.loopA.tiles.get 0).state = .joining := by
  decide +kernel

theorem test_slot_end_of_a_silent_tile :
    let s : State := { online with loopA := inFrame .running .normal [0] }
    ((after (.slotEnd .a []) s).loopA.tiles.get 0).missStreak = 1 := by decide +kernel

theorem test_reply_of_a_tile : tileReplyOf reply64 = some ⟨some .s64, false, 0⟩ := by decide

theorem test_hardware_reset_with_test_at_start :
    let t := after (.hardwareResetNegation ⟨false, false, true, true⟩) base
    t.mode.test.state = .running ∧ t.journal.ring = [] ∧ t.supervision.link.mode = .on := by decide +kernel

theorem test_software_reset_entry :
    let s : State := { online with link := { online.link with reply := some ⟨[], true, 0⟩ } }
    let t := after .softwareReset s
    t.journal.ring.map JournalEntry.new = [0x81] ∧ t.mode.device = .offline := by decide +kernel

/-! ### States and operands that meet the hypotheses of the statements

One theorem for each statement with hypotheses, named by its number: for each clause a case that meets all of them, at
the ends of its range. -/

theorem test_reset_meets_every_condition :
    base.inReset = false ∧ base.attends = true ∧ base.serves = true ∧ base.open = true ∧ base.settled = true ∧
      base.takesExpiries = true ∧ base.passDue = false := by
  decide +kernel

theorem test_small_states_are_open :
    online.open = true ∧ (withPoints base alarmRecord).open = true ∧ (alarmed online).open = true ∧
      passing.open = true ∧ (testing .loop .running).serves = true ∧ (inTest [0]).attends = true ∧
      online.takesExpiries = true ∧ online.passDue = false := by
  decide +kernel

theorem test_witness_O1 :
    ({ base with pending := [.tick] } : State).pending = .tick :: [] ∧ base.pending = [] := by decide

theorem test_witness_O2 : exec .tick { base with inReset := true } = .next { base with inReset := true } := by
  rfl

theorem test_witness_O3_second_assertion : ∃ t, exec .hardwareResetAssert base = .next t := ⟨_, rfl⟩

theorem test_witness_O3 :
    (after .hardwareResetAssert base).inReset = true ∧ base.inReset = false ∧ followsWhatIsDue .tick = true ∧
      fallsDueAtATick .hostTimerExpiry = true ∧ (after .setModeOnline base).passDue = true ∧
      (Instr.tick ≠ .hardwareResetAssert) := by decide +kernel

theorem test_witness_O4 :
    requestBody .readStatus = some [0x01] ∧
      requestBody (.acknowledge 0 0x07FF) = some [0x20, 0, 0x07, 0xFF] := by decide

theorem test_witness_O5 :
    1 ≤ ([0x01] : List Byte).length ∧ (List.replicate 1024 (0 : Byte)).length ≤ 1024 ∧ base.link.receiver = .hunt ∧
      base.link.queue.length < 4 ∧ 4 ≤ (List.replicate 4 QueueItem.rejectCheck).length := by decide +kernel

/-- The part with a receiver state and a buffer. -/
def receiving (r : ReceiverState) (buffer : List Byte) (gap : Timer) : State :=
  { base with link := { base.link with receiver := r, buffer := buffer, gap := gap } }

theorem test_witness_O6 :
    (receiving .length [] .expired).link.gap = .expired ∧ (receiving .length [] .expired).takesExpiries = true ∧
      base.link.gap ≠ .expired ∧ (receiving .length [] (.counting 100)).attends = true ∧
      (receiving .length [0x04] (.counting 1)).link.buffer = [0x04] ∧
      1 ≤ (0x04 : Byte).toNat * 256 + (0 : Byte).toNat ∧ (0x04 : Byte).toNat * 256 + (0 : Byte).toNat ≤ 1024 ∧
      1024 < (0x04 : Byte).toNat * 256 + (1 : Byte).toNat ∧ (0 : Byte).toNat * 256 + (0 : Byte).toNat = 0 ∧
      ([] : List Byte).length < (0 : Byte).toNat * 256 + (1 : Byte).toNat ∧
      ([0x01] : List Byte).length = (0 : Byte).toNat * 256 + (1 : Byte).toNat ∧
      (receiving .check [0, 1, 1, 0xEF] (.counting 1)).attends = true ∧
      crc16 (0 :: 1 :: [1]) = (0xEF : Byte) ++ (0x8C : Byte) ∧
      crc16 (0 :: 1 :: [1]) ≠ (0xEF : Byte) ++ (0x8D : Byte) := by decide +kernel

theorem test_witness_O7 :
    let queued : State :=
      { base with link := { base.link with queue := [.request [0x7F], .rejectCheck, .rejectLength] } }
    let busy := after .readStatus base
    base.link.queue.length < 4 ∧ (List.replicate 4 QueueItem.rejectCheck).length = 4 ∧ base.attends = true ∧
      base.link.queue = [] ∧ readerOf 0x7F = none ∧ queued.attends = true ∧ queued.link.reply = none ∧
      busy.attends = true ∧ busy.link.reply ≠ none ∧ requestBody .readStatus = some [0x01] := by decide +kernel

theorem test_witness_O8 : (List.replicate 1024 (0 : Byte)).length ≤ 1024 := by decide +kernel

theorem test_witness_O9 :
    requestBody .setModeOnline = some (0x02 :: [1]) ∧ (readerOf 0x02).isSome = true ∧ (readerOf 0x51).isSome = true ∧ (testing .memory .running).serves = true ∧
      (testing .memory .running).mode.test.state = .running ∧ (testing .loop .aborting).serves = true ∧
      (testing .loop .aborting).mode.test.state = .aborting := by decide +kernel

theorem test_witness_O10 :
    8 < (9 : Byte).toNat ∧ define6.lamps.length ≠ (1 : Byte).toNat ∧ 32 < (List.replicate 33 (⟨0, 0⟩ : Update)).length ∧
      128 < (List.replicate 129 (0 : Half)).length ∧ ([] : List Byte).length ≠ 16 ∧
      (readerOf 0x01).isSome = true ∧ ((readerOf 0x01).bind fun f => f [0]).isNone = true ∧ ([0] : List Byte) ≠ [] ∧
      ([] : List Byte).length ≠ 1 ∧ ([1, 2] : List Byte).length ≠ 1 := by decide +kernel

theorem test_witness_O11 :
    4 ≤ (4 : Byte).toNat ∧ 16 ≤ (16 : Byte).toNat ∧ 2 ≤ (2 : Byte).toNat ∧ (19 : Half).toNat < 20 ∧
      200 < (201 : Half).toNat ∧ 32 ≤ (32 : Byte).toNat ∧ (17 : Byte) ≠ 16 ∧ 16 < (17 : Byte).toNat ∧
      2048 ≤ (2048 : Half).toNat ∧ 128 < (129 : Byte).toNat ∧ 60 < (61 : Byte).toNat ∧ 256 < (257 : Half).toNat ∧
      3600 < (3601 : Half).toNat ∧ 128 < (127 : Byte).toNat + ([0, 0] : List Half).length ∧
      4096 ≤ (4096 : Half).toNat ∧ 15 < (16 : Byte).toNat ∧ (testing .memory .running).serves = true := by
  decide +kernel

theorem test_witness_O14 :
    20 ≤ (20 : Half).toNat ∧ (200 : Half).toNat ≤ 200 ∧ base.open = true := by decide +kernel

theorem test_witness_O15 :
    let s : State := { base with proving := ⟨[(0, ⟨.dark, 0, none⟩), (4095, ⟨.lit, 0, none⟩)]⟩ }
    s.open = true ∧ s.proving.wf ∧ (∀ c ∈ s.proving.cells, c.1 < 4096) ∧ 1 ≤ (1 : Byte).toNat ∧
      (128 : Byte).toNat ≤ 128 := by decide +kernel

theorem test_witness_O16 :
    (withPoints base alarmRecord).point? 0 = some statusRecord ∧ (withPoints base alarmRecord).point? 2047 = some bandRecord ∧
      (withPoints base alarmRecord).point? 1 = none := by decide +kernel

theorem test_witness_O17 :
    let lost : SupervisionUnit := { base.supervision with link := { base.supervision.link with state := .lost } }
    let failed : SupervisionUnit :=
      { base.supervision with outstations := base.supervision.outstations.put 3 ⟨1, .stopped 0, .failed⟩ }
    ({ statusRecord with forced := some 1 } : PointRecord).forced.isSome = true ∧ statusRecord.live = none ∧
      alarmRecord.live.isSome = true ∧ lost.link.state = .lost ∧
      (failed.outstations.get alarmRecord.outstation).state = .failed ∧ base.supervision.link.state = .healthy := by
  decide +kernel

theorem test_witness_O18 : base.serves = true ∧ 1 ≤ (1 : Byte).toNat ∧ (16 : Byte).toNat ≤ 16 := by decide +kernel

theorem test_witness_O19 :
    (List.replicate 16 (15 : Byte)).length = 16 ∧ ∀ v ∈ List.replicate 16 (15 : Byte), v.toNat ≤ 15 := by
  decide +kernel

theorem test_witness_O20 :
    let o : Offer := ⟨.change, .host, .point 0, 0, 1, [], some 2⟩
    (base.journal.selection.get 2).selects o.cls = false ∧
      (base.journal.selection.get 2).selects .alarm = true ∧ o.details.length ≤ 64 := by decide +kernel

theorem test_witness_O21 :
    base.point? 6 = none ∧ PointKind.alarm.allows 2 = true ∧ PointKind.band.allows 8 = true ∧
      ([40, 4095] : List (Fin 4096)).Nodup ∧ ∀ n ∈ ([40, 4095] : List (Fin 4096)), base.points.owners.get? n.val = none :=
  ⟨by decide +kernel, by decide, by decide, by decide, fun _ _ => rfl⟩

theorem test_witness_O22 :
    let s := withPoints base alarmRecord
    1 ≤ define6.lampCount.toNat ∧ define6.lamps.length = define6.lampCount.toNat ∧ s.point? 5 ≠ none ∧
      s.point? define6.point.toNat = none ∧ 3 ≤ (3 : Byte).toNat ∧ 128 ≤ (128 : Byte).toNat ∧
      ∃ r, recordOf ({ define6 with lamps := [10, 40] } : DefineArgs) = some r ∧
        ∃ n ∈ r.lamps, s.points.owners.get? n.val ≠ none := by
  refine ⟨by decide, by decide, by decide +kernel, by decide +kernel, by decide, by decide,
    ⟨.alarm, 3, 2, 1, true, false, [10, 40], none, none, some .normal, none⟩, by decide +kernel, 10, by decide, by decide +kernel⟩

theorem test_witness_O23 :
    (alarmed online).point? 5 = some (standing .alarmUnack) ∧ (alarmed online).point? 0 = some statusRecord := by
  decide +kernel

theorem test_witness_O24 :
    let s := withPoints base alarmRecord
    s.point? 1 = none ∧ (alarmRecord.kind ≠ .band ∧ 2 ≤ (2 : Byte).toNat) ∧ bandRecord.kind = .band ∧
      bandRecord.lamps.length < (4 : Byte).toNat := by decide +kernel

theorem test_witness_O25 :
    let s := withPoints base { alarmRecord with forced := some 1 }
    s.open = true ∧ s.point? 5 = some { alarmRecord with forced := some 1 } ∧ (1 : Byte).toNat ≤ 1 ∧
      (3 : Byte).toNat ≤ bandRecord.lamps.length ∧ statusRecord.forced = none := by decide +kernel

theorem test_witness_O26 :
    let held : PointRecord := { standing .normal with inhibited := true }
    (withPoints base held).open = true ∧ (withPoints base held).point? 5 = some held ∧ held.inhibited = true ∧
      held.kind = .alarm ∧ held.effective = some 1 ∧ ({ held with live := none } : PointRecord).effective ≠ some 1 ∧
      alarmRecord.inhibited = false ∧ statusRecord.kind ≠ .alarm := by decide +kernel

theorem test_witness_O27 :
    1 ≤ ([⟨5, 1⟩] : List Update).length ∧ (List.replicate 32 (⟨5, 1⟩ : Update)).length ≤ 32 ∧
      ((withPoints base alarmRecord).applies ⟨5, 1⟩).isSome = true ∧ (withPoints base alarmRecord).applies ⟨1, 1⟩ = none := by
  decide +kernel

theorem test_witness_O28 :
    2048 ≤ (2048 : Half).toNat ∧ alarmRecord.kind ≠ .band ∧ 2 ≤ (2 : Byte).toNat ∧
      bandRecord.lamps.length < (4 : Byte).toNat ∧ (3 : Byte).toNat ≤ bandRecord.lamps.length ∧
      (withPoints base alarmRecord).point? 5 = some alarmRecord ∧ alarmRecord.effective = some 0 ∧
      statusRecord.effective ≠ some 0 := by decide +kernel

theorem test_witness_O29 :
    (standing .alarmUnack).alarm = some .alarmUnack ∧ alarmRecord.ringBack = true ∧
      ({ alarmRecord with ringBack := false } : PointRecord).ringBack = false ∧
      alarmRecord.priority ≤ base.alarm.threshold ∧ (0 : Fin 4) < alarmRecord.priority := by decide

theorem test_witness_O30 :
    let s := alarmed online
    s.open = true ∧ s.point? 1 = none ∧ s.point? 0 = some statusRecord ∧ statusRecord.kind ≠ .alarm ∧
      s.alarm.list.find? (fun e => e.point == 5) = some entry5 ∧ s.alarm.list = entry5 :: [] ∧
      s.alarm.list.filter (fun e => e.sect == 2) ≠ [] ∧ s.alarm.list.filter (fun e => e.sect == 15) = [] ∧
      base.alarm.list = [] ∧ (withPoints base alarmRecord).alarm.list = [] := by decide +kernel

theorem test_witness_O31 :
    (alarmed online).point? entry5.point = some (standing .alarmUnack) ∧
      (withPoints base (standing .clearedUnack)).point? 5 = some (standing .clearedUnack) ∧
      (standing .alarmAck).alarm ≠ some .alarmUnack := by decide +kernel

theorem test_witness_O33 :
    (∃ e ∈ [{ entry5 with priority := 0 }], e.mark = true ∧ e.priority = 0) ∧
      (∀ e ∈ [entry5], e.mark = true → e.priority ≠ 0) ∧ (∃ e ∈ [entry5], e.mark = true) ∧
      ∀ e ∈ [{ entry5 with mark := false }], e.mark = false := by decide

theorem test_witness_O34 : online.open = true ∧ (1 = 1 ∨ 1 = 4 ∨ 1 = 16) ∧ (16 = 1 ∨ 16 = 4 ∨ 16 = 16) := by
  decide +kernel

theorem test_witness_O35 :
    let s : State := { online with desk := { online.desk with timer := .expired } }
    base.desk.ack.Lawful ∧ s.takesExpiries = true ∧ s.desk.timer = .expired ∧ base.desk.timer ≠ .expired ∧
      s.mode.device = .online ∧ s.desk.enabled = true ∧ base.mode.device = .offline ∧
      released.ack = true := by
  refine ⟨⟨by decide, by decide, by decide⟩, by decide, by decide, by decide, by decide, by decide, by decide, by decide⟩

theorem test_witness_O36 :
    let s : State := { online with mode := { online.mode with hostTimer := .expired } }
    0 ≤ 60 ∧ base.mode.device = .offline ∧ online.mode.device = .online ∧ s.mode.hostTimer = .expired ∧
      s.takesExpiries = true ∧ online.mode.hostTimer ≠ .expired := by decide +kernel

theorem test_witness_O37 :
    base.attends = true ∧ base.settled = true ∧ Nat.iterate Timer.tick 2 (.counting 2) = .expired ∧
      Nat.iterate Timer.tickGap 100 (.counting 100) = .counting 0 ∧ (2 - 1) * 9600 < 10000 ∧ 10000 ≤ (3 - 1) * 9600 := by
  decide +kernel

/-- The part with the FAST generator's counters as given. -/
def cadenced (prescale phase : Timer) (running : Bool) : State :=
  { base with cadence :=
    { base.cadence with
      fast := { base.cadence.fast with prescaleCounter := prescale, phaseCounter := phase, running := running } } }

theorem test_witness_O38 :
    let at1 := (cadenced (.counting 1) (.counting 25) true).atOnce.beforeTick.cadence.generator .fast
    at1.running = true ∧ at1.prescaleCounter = .counting 1 ∧
      ((cadenced (.counting 10) (.counting 25) true).atOnce.beforeTick.cadence.generator .fast).prescaleCounter =
        .counting 10 ∧
      ((cadenced (.counting 10) (.counting 25) false).atOnce.beforeTick.cadence.generator .fast).running = false ∧
      ((cadenced (.counting 10) .expired true).cadence.generator .fast).phaseCounter = .expired ∧
      ((cadenced .expired (.counting 25) true).cadence.generator .fast).prescaleCounter = .expired ∧
      (cadenced .expired (.counting 25) true).takesExpiries = true ∧
      (cadenced (.counting 10) .expired true).passDue = false ∧
      ((cadenced (.counting 10) .expired true).cadence.generator .fast).running = true := by decide +kernel

theorem test_witness_O39 :
    1 ≤ (1 : Half).toNat ∧ (256 : Half).toNat ≤ 256 ∧ 1 ≤ (1 : Byte).toNat := by decide

theorem test_witness_O40 :
    let s := withPoints base { alarmRecord with forced := some 1 }
    ({ statusRecord with live := some 1 } : PointRecord).effective = some 1 ∧ bandRecord.effective = some 3 ∧
      s.points.owners.get? 20 = some 5 ∧ s.point? 5 = some { alarmRecord with forced := some 1 } ∧
      alarmRecord.lamps.Nodup ∧ alarmRecord.lamps[0]? = some 20 ∧
      s.supervision.quality { alarmRecord with forced := some 1 } = .forced ∧
      s.supervision.quality statusRecord = .awaiting ∧ s.supervision.quality alarmRecord = .good ∧
      s.points.owners.get? 4095 = none := by decide +kernel

theorem test_witness_O41 :
    let one : Composer := ⟨none, .b, .waiting, .none, some .a⟩
    let two : Composer := ⟨none, .b, .waiting, .waiting, none⟩
    passing.composer.pass ≠ none ∧ one.pass = none ∧ one.request .a = .waiting ∧ one.elected = some .a ∧
      one.request (otherLoop .a) ≠ .waiting ∧ two.request .a = .waiting ∧ two.lastServed = otherLoop .a ∧
      passing.composer.request .a = .inFlight ∧ base.composer.request .b = .none := by decide

theorem test_witness_O42 :
    passing.attends = true ∧ passing.composer.pass = some pass ∧ base.composer.pass = none := by decide +kernel

theorem test_witness_O43 :
    let s : State := { online with loopA := { online.loopA with startPending := true } }
    let due : State := { online with loopA := { online.loopA with timer := .expired } }
    (s.loop .a).startPending = true ∧ (s.loop .a).transfer = none ∧ (s.loop .a).state = .running ∧
      s.passDue = false ∧ due.takesExpiries = true ∧ (due.loop .a).timer = .expired ∧
      (due.loop .a).startPending = false ∧ (base.loop .b).state = .stopped := by
  decide +kernel

theorem test_witness_O44 :
    let s : State := { online with loopA := inFrame .running .normal [0, 31] }
    s.attends = true ∧ (s.loop .a).transfer = some ⟨.normal, 12, [0, 31]⟩ ∧ (s.loop .a).state = .running ∧
      ({ online with loopA := inFrame .stopping .normal [0] } : State).attends = true ∧
      11 ≤ reply64.length ∧ reply64.head?.map RxChar.byte = some 0x3C ∧ (∀ c ∈ reply64.take 11, c.stopOk = true) ∧
      (reply64.take 10).length < 11 := by decide +kernel

theorem test_witness_O45 :
    let t : Tile := ⟨.s64, true, .present, 2, 0, false⟩
    let u : Tile := ⟨.s64, true, .absent, 0, 2, false⟩
    t.state = .present ∧ t.missStreak = 2 ∧ u.state = .absent ∧ u.replyStreak = 2 := by decide

theorem test_witness_O46 :
    let r : SlotReport := ⟨.b, 31, some ⟨some .s64, false, 0⟩, some .s64, .present, .present, true, 1⟩
    let w : TileReply := ⟨some .s64, false, 0⟩
    r.reply = some w ∧ w.size = some .s64 ∧ r.latched = some .s64 ∧ w.driveFault = false ∧ r.prevReply = true ∧
      r.before = .present ∧ r.after = .present := by decide

theorem test_lawful_proving_records :
    (⟨.unproven, 2, some .dark⟩ : ProvingRecord).Lawful ∧ (⟨.good, 0, none⟩ : ProvingRecord).Lawful ∧
      (⟨.dark, 2, none⟩ : ProvingRecord).Lawful ∧ (⟨.lit, 0, none⟩ : ProvingRecord).Lawful := by
  refine ⟨⟨by decide, by decide⟩, ⟨by decide, by decide⟩, ⟨by decide, by decide⟩, ⟨by decide, by decide⟩⟩

theorem test_witness_O47 :
    let s : State := { online with loopA := inFrame .running .normal [] }
    let t : State := { base with loopA := inFrame .stopping .normal [] }
    s.attends = true ∧ (s.loop .a).transfer = some ⟨.normal, 12, []⟩ ∧ (s.loop .a).state = .running ∧
      t.attends = true ∧ (t.loop .a).state = .stopping ∧ (base.loop .a).transfer = none := by decide +kernel

theorem test_witness_O48 :
    base.open = true ∧ base.mode.device = .offline ∧ online.open = true ∧ online.mode.device = .online := by
  decide +kernel

theorem test_witness_O49 :
    let started : State :=
      { testing .loop .running with loopB := { base.loopB with state := .testing, startPending := true } }
    online.open = true ∧ base.open = true ∧ base.loopA.state = .stopped ∧ base.loopB.state = .stopped ∧
      started.inReset = false ∧ started.passDue = false ∧ (started.loop .b).startPending = true ∧
      (started.loop .b).transfer = none ∧ (started.loop .b).state = .testing ∧ (inTest [0]).attends = true ∧ ((inTest [0]).loop .a).state = .testing ∧
      ((inTest [0]).loop .a).transfer = some ⟨.test, 12, 0 :: []⟩ ∧ (inTest []).attends = true ∧
      ((inTest []).loop .a).transfer = some ⟨.test, 12, []⟩ := by decide +kernel

theorem test_witness_O50 :
    (testing .loop .running).mode.test.kind = .loop ∧ (testing .loop .running).mode.test.state = .running ∧
      (testing .loop .aborting).mode.test.state = .aborting ∧ (testing .loop .running).loopA.state = .stopped ∧
      (inTest [0]).loopA.state ≠ .stopped ∧ (testing .memory .running).serves = true ∧
      (testing .loop .aborting).serves = true ∧ base.mode.test.state ≠ .running := by decide +kernel

theorem test_witness_O51 :
    base.open = true ∧ (testing .memory .running).attends = true ∧ (testing .memory .running).mode.test.kind = .memory ∧
      base.mode.test.kind ≠ .memory := by decide +kernel

theorem test_witness_O52 :
    let locked : State :=
      { base with supervision :=
        { base.supervision with link := ⟨.locked, 10, .expired, .healthy⟩ } }
    locked.open = true ∧ locked.takesExpiries = true ∧ locked.supervision.link.mode = .locked ∧
      locked.supervision.link.countdown = .expired ∧
      base.supervision.link.mode ≠ .locked ∧ base.supervision.link.state = .healthy ∧ 1 ≤ (1 : Byte).toNat := by
  decide +kernel

theorem test_witness_O53 :
    let table := (base.supervision.outstations.put 3 ⟨1, .expired, .healthy⟩).put 127 ⟨2, .stopped 0, .failed⟩
    let s : State := { base with supervision := { base.supervision with outstations := table } }
    s.open = true ∧ s.takesExpiries = true ∧ (s.supervision.outstations.get 3).countdown = .expired ∧
      (s.supervision.outstations.get 127).state = .failed ∧ (s.supervision.outstations.get 0).state = .unsupervised ∧
      1 ≤ ([0] : List Byte).length ∧ (List.replicate 32 (0 : Byte)).length ≤ 32 ∧ 127 + ([3600] : List Half).length ≤ 128 ∧
      (3600 : Half).toNat ≤ 3600 ∧ 128 ≤ (128 : Byte).toNat := by decide +kernel

theorem test_witness_O54 :
    let s : State := { base with link := { base.link with reply := some ⟨[], true, 0⟩ } }
    base.serves = true ∧ s.attends = true ∧ s.resetReplying = true ∧ base.resetReplying = false := by decide +kernel

/-! The invariants, met by a state that is not the reset state. -/

/-- The part ONLINE with one alarm standing and a tick waiting. -/
def waiting : State :=
  { online with
    pending := [.tick]
    points := ⟨⟨[(5, standing .alarmUnack)]⟩, ⟨[(20, 5), (21, 5)]⟩⟩
    alarm := ⟨[entry5], 3, .pulsed, true⟩ }

theorem test_waiting_steps : ∃ t, step waiting = .next t := ⟨_, rfl⟩

theorem waiting_has_one_point {p : Nat} {r : PointRecord} (h : waiting.points.table.get? p = some r) :
    p = 5 ∧ r = standing .alarmUnack := by
  by_cases hp : 5 = p
  · subst hp
    exact ⟨rfl, (Option.some.inj h).symm⟩
  · simp only [waiting, Sparse.get?, Sparse.find, if_neg hp] at h
    cases h

theorem test_witness_O57 : waiting.journal.Lawful ∧ waiting.journal.ItemsBounded := by
  refine ⟨⟨by decide, by decide, ?_, by decide⟩, ?_⟩
  · show JournalEntry.hardwareReset.seq + 1 = 1
    decide
  · intro e he
    obtain rfl : e = JournalEntry.hardwareReset := List.mem_singleton.mp he
    decide

theorem test_witness_O58 : waiting.HornDerived ∧ waiting.ModeLaw := by
  refine ⟨⟨by decide, by decide⟩, ?_, ?_, ?_⟩
  · intro h; exact absurd h (by decide)
  · intro h; exact absurd h (by decide)
  · intro l h
    cases l <;> exact absurd h (by decide)

theorem test_witness_O59 :
    waiting.TablesCanonical ∧ waiting.points.Lawful ∧ waiting.points.OwnersAgree ∧ waiting.ListLaw ∧
      waiting.alarm.Ordered := by
  refine ⟨⟨by decide, by decide, by decide⟩, ?_, ?_, ⟨by decide, ?_, ?_⟩, ?_⟩
  · intro p r h
    obtain ⟨rfl, rfl⟩ := waiting_has_one_point h
    refine ⟨by decide, by decide, by decide, by decide, by decide, by decide, ?_, ?_⟩
    · intro v hv; obtain rfl : 1 = v := Option.some.inj hv; decide
    · intro v hv; cases hv
  · intro lamp p
    constructor
    · intro h
      refine ⟨standing .alarmUnack, ?_⟩
      by_cases h1 : 20 = lamp
      · subst h1; obtain rfl : 5 = p := Option.some.inj h; exact ⟨rfl, 20, by decide, rfl⟩
      · by_cases h2 : 21 = lamp
        · subst h2; obtain rfl : 5 = p := Option.some.inj h; exact ⟨rfl, 21, by decide, rfl⟩
        · simp only [waiting, Sparse.get?, Sparse.find, if_neg h1, if_neg h2] at h
          cases h
    · rintro ⟨r, h, n, hn, rfl⟩
      obtain ⟨rfl, rfl⟩ := waiting_has_one_point h
      have : n = 20 ∨ n = 21 := by simpa [standing, alarmRecord] using hn
      rcases this with rfl | rfl <;> rfl
  · intro e he
    obtain rfl : e = entry5 := List.mem_singleton.mp he
    exact ⟨standing .alarmUnack, rfl, rfl, rfl, .inl rfl, rfl, rfl⟩
  · intro p r h _ _ _
    obtain ⟨rfl, rfl⟩ := waiting_has_one_point h
    exact ⟨entry5, List.mem_singleton.mpr rfl, rfl⟩
  · exact List.pairwise_singleton _ _

theorem test_witness_O60 :
    waiting.StreaksLawful ∧ waiting.supervision.Lawful ∧ waiting.composer.Lawful ∧ waiting.link.QueueBounded ∧
      waiting.SettingsInRange := by
  have filter : ∀ {α : Type} (a : α), (⟨a, none, 0⟩ : Machine.Filter α).Lawful := fun _ =>
    ⟨Nat.zero_le 2, by simp, by simp⟩
  have initial : ProvingRecord.initial.Lawful := ⟨by decide, by decide⟩
  refine ⟨⟨fun _ => initial, ?_⟩, ⟨⟨by decide, by decide⟩, ?_⟩, ?_, Nat.zero_le 4, ?_, ?_, ?_⟩
  · have h : ∀ slot : Fin 32, (Bank.fill 32 Tile.initial).get slot = Tile.initial := by decide +kernel
    intro l slot
    cases l <;> exact (h slot) ▸ ⟨by decide, by decide, by decide, by decide⟩
  · have h : ∀ n : Fin 128, (Bank.fill 128 Outstation.initial).get n = Outstation.initial := by decide +kernel
    intro n
    exact (h n) ▸ ⟨by decide, by decide⟩
  · intro l
    cases l <;> exact ⟨fun h => absurd h (by decide), fun ⟨_, h, _⟩ => nomatch h⟩
  · exact ⟨filter _, filter _, filter _, filter _, filter _, .inr (.inl rfl)⟩
  · intro g
    cases g <;> exact ⟨by decide, by decide, by decide, by decide, by decide, by decide, by decide⟩
  · intro l
    cases l <;> exact ⟨by decide, by decide⟩
end Sys2Proof.Tests
end

/-!
PROOFS. What a step is made of: the requests that a body can carry, and a relation that holds across every single
event, effect of a request and move of the queue, which holds across every step.
-/

namespace Sys2Proof.Machine

/-! ## The requests a body can carry (Table 11-3) -/

/-- A request at the gate that some body spells: a row of Table 11-3 with operands at any value, or a known kind with a
payload of a wrong length. -/
inductive Request.Known : Request → Prop
  | readStatus : Known readStatusRequest
  | setModeOnline : Known setModeOnlineRequest
  | setModeOffline : Known setModeOfflineRequest
  | setModeOther : Known setModeOtherRequest
  | reset : Known resetRequest
  | runTest (kind : Byte) : Known (runTestRequest kind)
  | abortTest : Known abortTestRequest
  | readTestResults : Known readTestResultsRequest
  | definePoint (d : DefineArgs) : Known (definePointRequest d)
  | deletePoint (p : Half) : Known (deletePointRequest p)
  | readPoint (p : Half) : Known (readPointRequest p)
  | updatePoints (us : List Update) : Known (updatePointsRequest us)
  | forcePoint (p : Half) (v : Byte) : Known (forcePointRequest p v)
  | releasePoint (p : Half) : Known (releasePointRequest p)
  | inhibitPoint (p : Half) : Known (inhibitPointRequest p)
  | enablePoint (p : Half) : Known (enablePointRequest p)
  | acknowledge (scope : Byte) (argument : Half) : Known (acknowledgeRequest scope argument)
  | silence : Known silenceRequest
  | readAnnunciation (start : Half) (count : Byte) : Known (readAnnunciationRequest start count)
  | setHornThreshold (v : Byte) : Known (setHornThresholdRequest v)
  | setDeskControl (enable period : Byte) : Known (setDeskControlRequest enable period)
  | configureTile (loop slot size enable : Byte) : Known (configureTileRequest loop slot size enable)
  | setLoopTiming (loop : Byte) (period : Half) : Known (setLoopTimingRequest loop period)
  | setIntensity (v : Byte) : Known (setIntensityRequest v)
  | lampTest (d : Byte) : Known (lampTestRequest d)
  | readLoopStatus (loop : Byte) : Known (readLoopStatusRequest loop)
  | readLampFaults (start : Half) : Known (readLampFaultsRequest start)
  | setCadence (g : Byte) (prescale : Half) (lit dark run : Byte) : Known (setCadenceRequest g prescale lit dark run)
  | setTime (time : Word) : Known (setTimeRequest time)
  | setSupervision (mode period : Byte) : Known (setSupervisionRequest mode period)
  | setOutstationPeriods (first : Byte) (ps : List Half) : Known (setOutstationPeriodsRequest first ps)
  | siteHeartbeat (os : List Byte) : Known (siteHeartbeatRequest os)
  | readOutstations (first count : Byte) : Known (readOutstationsRequest first count)
  | readJournal (count : Byte) : Known (readJournalRequest count)
  | setJournalSelection (vs : List Byte) : Known (setJournalSelectionRequest vs)
  | misSized (kind : Byte) (duringTest : Bool) : Known (misSizedRequest kind duringTest)

/-- A reader of payloads that gives known requests only. -/
def ReadsKnown (f : List Byte → Option Request) : Prop :=
  ∀ payload r, f payload = some r → r.Known

theorem readsKnown_payload0 {r : Request} (h : r.Known) : ReadsKnown (payload0 r) := by
  intro payload q hq
  cases payload with
  | nil => exact Option.some.inj hq ▸ h
  | cons a rest => cases hq

theorem readsKnown_payload1 {f : Byte → Request} (h : ∀ a, (f a).Known) : ReadsKnown (payload1 f) := by
  intro payload q hq
  unfold payload1 at hq
  split at hq
  · exact Option.some.inj hq ▸ h _
  · cases hq

theorem readsKnown_payload2 {f : Byte → Byte → Request} (h : ∀ a b, (f a b).Known) : ReadsKnown (payload2 f) := by
  intro payload q hq
  unfold payload2 at hq
  split at hq
  · exact Option.some.inj hq ▸ h _ _
  · cases hq

theorem readsKnown_payload3 {f : Byte → Byte → Byte → Request} (h : ∀ a b c, (f a b c).Known) :
    ReadsKnown (payload3 f) := by
  intro payload q hq
  unfold payload3 at hq
  split at hq
  · exact Option.some.inj hq ▸ h _ _ _
  · cases hq

theorem readsKnown_payload4 {f : Byte → Byte → Byte → Byte → Request} (h : ∀ a b c d, (f a b c d).Known) :
    ReadsKnown (payload4 f) := by
  intro payload q hq
  unfold payload4 at hq
  split at hq
  · exact Option.some.inj hq ▸ h _ _ _ _
  · cases hq

theorem readsKnown_payload6 {f : Byte → Byte → Byte → Byte → Byte → Byte → Request}
    (h : ∀ a b c d e g, (f a b c d e g).Known) : ReadsKnown (payload6 f) := by
  intro payload q hq
  unfold payload6 at hq
  split at hq
  · exact Option.some.inj hq ▸ h _ _ _ _ _ _
  · cases hq

theorem readsKnown_map {α : Type} {g : List Byte → Option α} {f : α → Request} (h : ∀ a, (f a).Known) :
    ReadsKnown fun p => (g p).map f := by
  intro payload q hq
  obtain ⟨a, -, rfl⟩ := Option.map_eq_some_iff.mp hq
  exact h a

theorem readsKnown_total {f : List Byte → Request} (h : ∀ p, (f p).Known) : ReadsKnown fun p => some (f p) :=
  fun payload _ hq => Option.some.inj hq ▸ h payload

theorem setModeRequest_known (code : Byte) : (setModeRequest code).Known := by
  unfold setModeRequest
  split
  · exact .setModeOffline
  · split
    · exact .setModeOnline
    · exact .setModeOther

theorem readsKnown_setOutstationPeriodsOf : ReadsKnown setOutstationPeriodsOf := by
  intro payload q hq
  cases payload with
  | nil => cases hq
  | cons first rest => exact readsKnown_map (fun ps => .setOutstationPeriods first ps) rest q hq

/-- Every reader of Table 11-3 gives known requests only. -/
theorem readerOf_readsKnown {kind : Byte} {f : List Byte → Option Request} (h : readerOf kind = some f) :
    ReadsKnown f := by
  unfold readerOf at h
  split at h <;> cases h
  · exact readsKnown_payload0 .readStatus
  · exact readsKnown_payload1 setModeRequest_known
  · exact readsKnown_payload0 .reset
  · exact readsKnown_payload1 .runTest
  · exact readsKnown_payload0 .abortTest
  · exact readsKnown_payload0 .readTestResults
  · exact readsKnown_map .definePoint
  · exact readsKnown_payload2 fun _ _ => .deletePoint _
  · exact readsKnown_payload2 fun _ _ => .readPoint _
  · exact readsKnown_map .updatePoints
  · exact readsKnown_payload3 fun _ _ _ => .forcePoint _ _
  · exact readsKnown_payload2 fun _ _ => .releasePoint _
  · exact readsKnown_payload2 fun _ _ => .inhibitPoint _
  · exact readsKnown_payload2 fun _ _ => .enablePoint _
  · exact readsKnown_payload3 fun _ _ _ => .acknowledge _ _
  · exact readsKnown_payload0 .silence
  · exact readsKnown_payload3 fun _ _ _ => .readAnnunciation _ _
  · exact readsKnown_payload1 .setHornThreshold
  · exact readsKnown_payload2 .setDeskControl
  · exact readsKnown_payload4 .configureTile
  · exact readsKnown_payload3 fun _ _ _ => .setLoopTiming _ _
  · exact readsKnown_payload1 .setIntensity
  · exact readsKnown_payload1 .lampTest
  · exact readsKnown_payload1 .readLoopStatus
  · exact readsKnown_payload2 fun _ _ => .readLampFaults _
  · exact readsKnown_payload6 fun _ _ _ _ _ _ => .setCadence _ _ _ _ _
  · exact readsKnown_payload4 fun _ _ _ _ => .setTime _
  · exact readsKnown_payload2 .setSupervision
  · exact readsKnown_setOutstationPeriodsOf
  · exact readsKnown_total .siteHeartbeat
  · exact readsKnown_payload2 .readOutstations
  · exact readsKnown_payload1 .readJournal
  · exact readsKnown_total .setJournalSelection

/-- The request a body carries is a known one. -/
theorem requestOf_known {kind : Byte} {payload : List Byte} {r : Request} (h : requestOf kind payload = some r) :
    r.Known := by
  obtain ⟨f, hf, rfl⟩ := Option.map_eq_some_iff.mp h
  cases e : f payload with
  | none => exact .misSized kind (passesDuringTest kind)
  | some q => exact readerOf_readsKnown hf payload q e

/-! ## What a step is made of -/

/-- A relation between states that holds across each thing a step is made of: nothing at all, one after another, and
every single event, effect of a request, and move of the queue and the transmitter. -/
structure StepRelation (R : State → State → Prop) : Prop where
  refl : ∀ s, R s s
  trans : ∀ {s t u}, R s t → R t u → R s u
  nextCommand : ∀ s rest, R s { s with pending := rest }
  startPass : ∀ s, R s s.startPass
  togglePhase : ∀ g s, R s (s.togglePhase g)
  startFrame : ∀ l s, R s (s.startFrame l)
  expirePrescale : ∀ g s, R s (s.expirePrescale g)
  expireFrameTimer : ∀ l s, R s (s.expireFrameTimer l)
  expireLink : ∀ s, R s s.expireLink
  expireOutstation : ∀ n s, R s (s.expireOutstation n)
  expireGap : ∀ s, R s s.expireGap
  expireHostTimer : ∀ s, R s s.expireHostTimer
  sampleDesk : ∀ pins s, R s (s.sampleDesk pins)
  countTick : ∀ s, R s s.countTick
  endPass : ∀ s, R s s.endPass
  endSlot : ∀ l window s, R s (s.endSlot l window)
  endFrame : ∀ l s, R s (s.endFrame l)
  completeMemoryTest : ∀ passed s, R s (s.completeMemoryTest passed)
  receive : ∀ c s, R s (s.receive c)
  enqueue : ∀ item s, R s { s with link := s.link.offerItem item }
  dequeue : ∀ s item rest, s.link.queue = item :: rest → R s { s with link := { s.link with queue := rest } }
  owner : ∀ (r : Request) s, r.Known → R s (r.owner s).state
  sendReply : ∀ s kind status payload ofReset, R s (s.sendReply kind status payload ofReset)
  endResetReply : ∀ s, R s s.endResetReply
  assertReset : ∀ s, R s s.assertReset
  negateReset : ∀ straps s, R s (s.negateReset straps)

namespace StepRelation

variable {R : State → State → Prop} (h : StepRelation R)
include h

theorem frameNow (s : State) (l : Loop) : R s (s.frameNow l) :=
  h.trans (h.startFrame l s) (h.startPass _)

theorem followUps (s : State) : R s s.followUps := by
  have toggled := h.trans (h.trans (h.trans (h.startPass s) (h.togglePhase .fast _)) (h.togglePhase .slow _))
    (h.togglePhase .wink _)
  exact h.trans (h.trans toggled (h.frameNow _ .a)) (h.frameNow _ .b)

theorem settleGenerator (s : State) (g : Generator) : R s (s.settleGenerator g) :=
  h.trans (h.expirePrescale g s) (h.togglePhase g _)

theorem timerNow (s : State) (l : Loop) : R s (s.timerNow l) :=
  h.trans (h.expireFrameTimer l s) (h.frameNow _ l)

theorem atOnce (s : State) : R s s.atOnce := by
  have cadence := h.trans (h.trans (h.trans (h.followUps s) (h.settleGenerator _ .fast)) (h.settleGenerator _ .slow))
    (h.settleGenerator _ .wink)
  exact h.trans (h.trans cadence (h.timerNow _ .a)) (h.timerNow _ .b)

theorem expireOutstations (s : State) : R s s.expireOutstations := by
  have fold : ∀ (ns : List (Fin 128)) (t : State), R t (ns.foldl (fun t n => t.expireOutstation n) t) := by
    intro ns
    induction ns with
    | nil => exact h.refl
    | cons n ns ih => exact fun t => h.trans (h.expireOutstation n t) (ih _)
  exact fold _ s

theorem gate (s : State) {r : Request} (k : r.Known) : R s (s.gate r).state := by
  unfold State.gate
  split
  · exact h.refl s
  · split
    · exact h.owner r s k
    · exact h.refl s

theorem serve (s : State) {r : Request} (k : r.Known) : R s (s.serve r) :=
  h.trans (h.gate s k) (h.sendReply _ _ _ _ _)

theorem serveBody (s : State) (body : List Byte) : R s (s.serveBody body) := by
  cases body with
  | nil => exact h.refl s
  | cons kind payload =>
    rw [State.serveBody]
    split
    · exact h.sendReply s _ _ _ _
    · next r hr => exact h.serve s (requestOf_known hr)

theorem serveItem (s : State) (item : QueueItem) : R s (s.serveItem item) := by
  cases item with
  | request body => exact h.serveBody s body
  | rejectCheck => exact h.sendReply s _ _ _ _
  | rejectLength => exact h.sendReply s _ _ _ _

theorem beginService (s : State) : R s s.beginService := by
  unfold State.beginService
  split
  · split
    · exact h.refl s
    · next item rest e => exact h.trans (h.dequeue s item rest e) (h.serveItem _ item)
  · exact h.refl s

theorem await (s : State) (c : Instr) : R s (s.await c) := by
  unfold State.await
  split
  · exact h.refl s
  · exact h.enqueue _ s

theorem beforeTick (s : State) : R s s.beforeTick := by
  have counted := h.trans (h.trans (h.trans (h.expireLink s) (h.expireOutstations _)) (h.expireGap _))
    (h.expireHostTimer _)
  exact h.trans (h.trans (h.trans counted (h.sampleDesk _ _)) (h.beginService _)) (h.followUps _)

/-- Taking a command, RESET asserted or not. -/
theorem takes {s t : State} {f : State → State} (hf : R s (f s)) (e : s.takes f = .next t) : R s t := by
  cases Host.Outcome.next.inj e
  split
  · exact h.refl s
  · exact hf

theorem takesAfterDue {s t : State} {f : State → State} (hf : ∀ u, R u (f u)) (e : s.takesAfterDue f = .next t) :
    R s t :=
  h.takes (h.trans (h.atOnce s) (hf _)) e

theorem takesAfterFollowUps {s t : State} {f : State → State} (hf : ∀ u, R u (f u))
    (e : s.takesAfterFollowUps f = .next t) : R s t :=
  h.takes (h.trans (h.followUps s) (hf _)) e

theorem takesAfterPassStart {s t : State} {f : State → State} (hf : ∀ u, R u (f u))
    (e : s.takesAfterPassStart f = .next t) : R s t :=
  h.takes (h.trans (h.startPass s) (hf _)) e

theorem request {s t : State} {c : Instr} {r : Request} (k : r.Known) (e : s.request c r = .next t) : R s t := by
  refine h.takesAfterDue (fun u => ?_) e
  split
  · exact h.serve u k
  · exact h.await u c

/-- The relation holds across every command. -/
theorem exec {c : Instr} {s t : State} (e : Machine.exec c s = .next t) : R s t := by
  cases c with
  | readStatus => exact h.request .readStatus e
  | setModeOnline => exact h.request .setModeOnline e
  | setModeOffline => exact h.request .setModeOffline e
  | reset => exact h.request .reset e
  | softwareReset => exact h.takesAfterDue h.endResetReply e
  | runTest kind => exact h.request (.runTest kind) e
  | memoryTestCompletion passed => exact h.takesAfterDue (h.completeMemoryTest passed) e
  | abortTest => exact h.request .abortTest e
  | readTestResults => exact h.request .readTestResults e
  | definePoint args => exact h.request (.definePoint args) e
  | deletePoint point => exact h.request (.deletePoint point) e
  | readPoint point => exact h.request (.readPoint point) e
  | updatePoints updates => exact h.request (.updatePoints updates) e
  | forcePoint point value => exact h.request (.forcePoint point value) e
  | releasePoint point => exact h.request (.releasePoint point) e
  | inhibitPoint point => exact h.request (.inhibitPoint point) e
  | enablePoint point => exact h.request (.enablePoint point) e
  | acknowledge scope argument => exact h.request (.acknowledge scope argument) e
  | silence => exact h.request .silence e
  | readAnnunciation start count => exact h.request (.readAnnunciation start count) e
  | setHornThreshold value => exact h.request (.setHornThreshold value) e
  | setDeskControl enable period => exact h.request (.setDeskControl enable period) e
  | deskSample pins => exact h.takesAfterFollowUps (h.sampleDesk pins) e
  | tick => exact h.takesAfterDue (fun u => h.trans (h.beforeTick u) (h.countTick _)) e
  | prescaleExpiry generator => exact h.takesAfterFollowUps (h.expirePrescale generator) e
  | phaseToggle generator => exact h.takesAfterPassStart (h.togglePhase generator) e
  | setCadence generator prescale lit dark run => exact h.request (.setCadence generator prescale lit dark run) e
  | setTime time => exact h.request (.setTime time) e
  | passStart => exact h.takes (h.startPass s) e
  | passCompletion => exact h.takesAfterDue h.endPass e
  | frameTimerExpiry loop => exact h.takesAfterFollowUps (h.expireFrameTimer loop) e
  | frameStart loop => exact h.takesAfterPassStart (h.startFrame loop) e
  | slotEnd loop window => exact h.takesAfterDue (h.endSlot loop window) e
  | frameEnd loop => exact h.takesAfterDue (h.endFrame loop) e
  | configureTile loop slot size enable => exact h.request (.configureTile loop slot size enable) e
  | setLoopTiming loop period => exact h.request (.setLoopTiming loop period) e
  | setIntensity value => exact h.request (.setIntensity value) e
  | readLoopStatus loop => exact h.request (.readLoopStatus loop) e
  | lampTest duration => exact h.request (.lampTest duration) e
  | hostTimerExpiry => exact h.takesAfterFollowUps h.expireHostTimer e
  | readLampFaults start => exact h.request (.readLampFaults start) e
  | linkCountdownExpiry => exact h.takesAfterFollowUps h.expireLink e
  | outstationCountdownExpiry outstation => exact h.takesAfterFollowUps (h.expireOutstation outstation) e
  | setSupervision mode period => exact h.request (.setSupervision mode period) e
  | setOutstationPeriods first periods => exact h.request (.setOutstationPeriods first periods) e
  | siteHeartbeat outstations => exact h.request (.siteHeartbeat outstations) e
  | readOutstations first count => exact h.request (.readOutstations first count) e
  | readJournal count => exact h.request (.readJournal count) e
  | setJournalSelection values => exact h.request (.setJournalSelection values) e
  | characterReceived char => exact h.takesAfterDue (h.receive char) e
  | gapTimerExpiry => exact h.takesAfterFollowUps h.expireGap e
  | serviceBegin => exact h.takesAfterDue h.beginService e
  | hardwareResetAssert => exact Host.Outcome.next.inj e ▸ h.assertReset s
  | hardwareResetNegation straps => exact Host.Outcome.next.inj e ▸ h.negateReset straps s

/-- The relation holds across every step. -/
theorem step {s t : State} (e : Machine.step s = .next t) : R s t := by
  unfold Machine.step at e
  split at e
  · exact Host.Outcome.next.inj e ▸ h.refl s
  · next c rest _ => exact h.trans (h.nextCommand s rest) (h.exec e)

end StepRelation

end Sys2Proof.Machine

/-!
PROOFS. The board: the points, the lamp ownership map and the Annunciation List. The single changes that commands make
to it, and that each of them keeps the canonical tables, the law of the points, the ownership law and the list law.
-/

namespace Sys2Proof.Machine

/-! ## Sparse tables and lamp ownership -/

theorem Sparse.insert_insert {α : Type} (k : Nat) (a b : α) (cells : List (Nat × α)) :
    Sparse.insert k b (Sparse.insert k a cells) = Sparse.insert k b cells := by
  induction cells with
  | nil => simp [Sparse.insert]
  | cons c rest ih =>
    obtain ⟨j, x⟩ := c
    rcases Nat.lt_trichotomy k j with lt | rfl | gt
    · simp [Sparse.insert, lt]
    · simp [Sparse.insert]
    · have nlt : ¬ k < j := by omega
      have ne : k ≠ j := by omega
      simp [Sparse.insert, nlt, ne, ih]

/-- The later of two writes of one key stands alone. -/
theorem Sparse.put_put {α : Type} (t : Sparse α) (k : Nat) (a b : α) : (t.put k a).put k b = t.put k b := by
  simp [Sparse.put, Sparse.insert_insert]

/-- The owner of a lamp after a claim. -/
theorem get?_claimLamps (p lamp : Nat) (lamps : List (Fin 4096)) : ∀ owners : Sparse Nat,
    (claimLamps owners p lamps).get? lamp = if ∃ n ∈ lamps, n.val = lamp then some p else owners.get? lamp := by
  induction lamps with
  | nil => intro owners; simp [claimLamps]
  | cons n rest ih =>
    intro owners
    have step : claimLamps owners p (n :: rest) = claimLamps (owners.put n.val p) p rest := rfl
    rw [step, ih]
    by_cases hr : ∃ m ∈ rest, m.val = lamp
    · simp [hr]
    · by_cases hn : n.val = lamp <;> simp [hr, hn]

/-- The owner of a lamp after lamps are freed. -/
theorem get?_freeLamps (lamp : Nat) (lamps : List (Fin 4096)) : ∀ owners : Sparse Nat,
    (freeLamps owners lamps).get? lamp = if ∃ n ∈ lamps, n.val = lamp then none else owners.get? lamp := by
  induction lamps with
  | nil => intro owners; simp [freeLamps]
  | cons n rest ih =>
    intro owners
    have step : freeLamps owners (n :: rest) = freeLamps (owners.erase n.val) rest := rfl
    rw [step, ih]
    by_cases hr : ∃ m ∈ rest, m.val = lamp
    · simp [hr]
    · by_cases hn : n.val = lamp <;> simp [hr, hn]

theorem claimLamps_wf (p : Nat) (lamps : List (Fin 4096)) : ∀ {owners : Sparse Nat}, owners.wf →
    (claimLamps owners p lamps).wf := by
  induction lamps with
  | nil => exact fun h => h
  | cons n rest ih => exact fun h => ih (Sparse.wf_put _ n.val p h)

theorem freeLamps_wf (lamps : List (Fin 4096)) : ∀ {owners : Sparse Nat}, owners.wf →
    (freeLamps owners lamps).wf := by
  induction lamps with
  | nil => exact fun h => h
  | cons n rest ih => exact fun h => ih (Sparse.wf_erase _ n.val h)

/-! ## The Annunciation List in priority order -/

/-- What the list law reads of an entry. -/
def AnnEntry.key (e : AnnEntry) : Nat × Fin 4 × Fin 16 :=
  (e.point, e.priority, e.sect)

theorem markPoint_keys (p : Nat) (list : List AnnEntry) :
    (markPoint p list).map AnnEntry.key = list.map AnnEntry.key := by
  simp only [markPoint, List.map_map]
  refine List.map_congr_left fun e _ => ?_
  simp only [Function.comp_apply]
  split <;> rfl

/-- Non-decreasing priority (R34). -/
def PriorityOrder (list : List AnnEntry) : Prop :=
  list.Pairwise fun e f => e.priority ≤ f.priority

/-- The order is a matter of the keys alone. -/
theorem priorityOrder_iff_keys (list : List AnnEntry) :
    PriorityOrder list ↔ (list.map AnnEntry.key).Pairwise fun x y => x.2.1 ≤ y.2.1 :=
  (List.pairwise_map (f := AnnEntry.key) (R := fun x y => x.2.1 ≤ y.2.1)).symm

theorem insertArrival_priorityOrder (e : AnnEntry) {list : List AnnEntry} (h : PriorityOrder list) :
    PriorityOrder (insertArrival e list) := by
  induction list with
  | nil => exact List.pairwise_singleton _ _
  | cons x rest ih =>
    obtain ⟨hx, hrest⟩ := List.pairwise_cons.mp h
    unfold insertArrival
    split
    · next lt =>
      refine List.pairwise_cons.mpr ⟨fun f hf => ?_, h⟩
      rcases List.mem_cons.mp hf with rfl | hf
      · exact le_of_lt lt
      · exact (le_of_lt lt).trans (hx f hf)
    · next nlt =>
      refine List.pairwise_cons.mpr ⟨fun f hf => ?_, ih hrest⟩
      rcases mem_insertArrival.mp hf with rfl | hf
      · exact le_of_not_gt nlt
      · exact hx f hf

theorem removePoint_priorityOrder (p : Nat) {list : List AnnEntry} (h : PriorityOrder list) :
    PriorityOrder (removePoint p list) :=
  h.sublist List.filter_sublist

/-! ## The board: the points, their lamps, the list -/

/-- What the laws of chapters 1 and 2 speak of: the Point Store and the list, with the proving table beside them for
its canonical form. -/
structure Board where
  points  : PointStore
  list    : List AnnEntry
  proving : Sparse ProvingRecord

/-- The board of a state. -/
def State.board (s : State) : Board :=
  ⟨s.points, s.alarm.list, s.proving⟩

/-- The record of a point that the list has to hold (R32). -/
def PointRecord.Pending (r : PointRecord) : Prop :=
  r.kind = .alarm ∧ r.inhibited = false ∧ (r.alarm = some .alarmUnack ∨ r.alarm = some .clearedUnack)

/-- A record that may stand in the place of another: the fields the lamps and the list hang on are kept, and so is the
record's law. -/
structure PointRecord.Revises (r' r : PointRecord) : Prop where
  lamps    : r'.lamps = r.lamps
  priority : r'.priority = r.priority
  sect     : r'.sect = r.sect
  lawful   : r.Lawful → r'.Lawful

/-- The single changes that a command makes to the board. -/
inductive Board.Move (b : Board) : Board → Prop
  /-- DEFINE POINT: a new record on FREE lamps, which it claims (R13). -/
  | define {p : Nat} {r : PointRecord} (range : p < 2048) (new : b.points.table.get? p = none) (lawful : r.Lawful)
      (calm : ¬ r.Pending) (free : ∀ n ∈ r.lamps, b.points.owners.get? n.val = none) :
      b.Move { b with points := ⟨b.points.table.put p r, claimLamps b.points.owners p r.lamps⟩ }
  /-- DELETE POINT: the record goes, with its lamps and its entry (R14). -/
  | delete {p : Nat} {r : PointRecord} (old : b.points.table.get? p = some r) :
      b.Move
        { b with
          points := ⟨b.points.table.erase p, freeLamps b.points.owners r.lamps⟩
          list := if r.kind = .alarm then removePoint p b.list else b.list }
  /-- A record is revised and stays in the list or out of it. -/
  | revise {p : Nat} {r r' : PointRecord} (old : b.points.table.get? p = some r) (revises : r'.Revises r)
      (same : r.Lawful → (r'.Pending ↔ r.Pending)) :
      b.Move { b with points := { b.points with table := b.points.table.put p r' } }
  /-- A record comes to be pending, and its point arrives in the list (R34). -/
  | arrive {p : Nat} {r r' : PointRecord} {e : AnnEntry} (old : b.points.table.get? p = some r)
      (revises : r'.Revises r) (calm : ¬ r.Pending) (pending : r'.Pending)
      (entry : e.key = (p, r'.priority, r'.sect)) :
      b.Move
        { b with
          points := { b.points with table := b.points.table.put p r' }
          list := insertArrival e b.list }
  /-- A record is pending no more, and its point leaves the list (R31, R38). -/
  | withdraw {p : Nat} {r r' : PointRecord} (old : b.points.table.get? p = some r) (revises : r'.Revises r)
      (calm : ¬ r'.Pending) :
      b.Move
        { b with
          points := { b.points with table := b.points.table.put p r' }
          list := removePoint p b.list }
  /-- Sounding marks are set or cleared (R36, R45). -/
  | mark {list : List AnnEntry} (keys : list.map AnnEntry.key = b.list.map AnnEntry.key) :
      b.Move { b with list := list }
  /-- The proving records change, and stay canonical (R130). -/
  | prove {t : Sparse ProvingRecord} (canonical : b.proving.wf → t.wf) : b.Move { b with proving := t }
  /-- Everything is cleared (R24, R49, R137, R173). -/
  | clear : b.Move ⟨⟨Sparse.empty, Sparse.empty⟩, [], Sparse.empty⟩
  /-- A software reset: every record NORMAL and without values, the list empty (R23, R49). -/
  | restart :
      b.Move ⟨{ b.points with table := b.points.table.map PointRecord.afterSoftwareReset }, [], Sparse.empty⟩

/-! ### The tables stay canonical -/

/-- The canonical form of the board's tables. -/
def Board.Canonical (b : Board) : Prop :=
  b.points.table.wf ∧ b.points.owners.wf ∧ b.proving.wf

theorem Board.Move.canonical {b b' : Board} (m : b.Move b') (h : b.Canonical) : b'.Canonical := by
  obtain ⟨table, owners, proving⟩ := h
  cases m with
  | define range new lawful calm free => exact ⟨Sparse.wf_put _ _ _ table, claimLamps_wf _ _ owners, proving⟩
  | delete old => exact ⟨Sparse.wf_erase _ _ table, freeLamps_wf _ owners, proving⟩
  | revise old revises same => exact ⟨Sparse.wf_put _ _ _ table, owners, proving⟩
  | arrive old revises calm pending entry => exact ⟨Sparse.wf_put _ _ _ table, owners, proving⟩
  | withdraw old revises calm => exact ⟨Sparse.wf_put _ _ _ table, owners, proving⟩
  | mark keys => exact ⟨table, owners, proving⟩
  | prove canonical => exact ⟨table, owners, canonical proving⟩
  | clear => exact ⟨Sparse.wf_empty, Sparse.wf_empty, Sparse.wf_empty⟩
  | restart => exact ⟨Sparse.wf_map _ _ table, owners, Sparse.wf_empty⟩

/-! ### The points stay lawful -/

theorem PointStore.Lawful.record {ps : PointStore} (h : ps.Lawful) {p : Nat} {r : PointRecord}
    (old : ps.table.get? p = some r) : r.Lawful :=
  (h p r old).2

/-- A lawful record written at a number in range keeps the points lawful. -/
theorem PointStore.Lawful.put {ps : PointStore} (h : ps.Lawful) {p : Nat} {r : PointRecord} (range : p < 2048)
    (lawful : r.Lawful) (owners : Sparse Nat) : PointStore.Lawful ⟨ps.table.put p r, owners⟩ := by
  intro q x hx
  rw [Sparse.get?_put] at hx
  split at hx
  · next e => exact ⟨e ▸ range, Option.some.inj hx ▸ lawful⟩
  · exact h q x hx

/-- A revised record keeps the points lawful. -/
theorem PointStore.Lawful.revise {ps : PointStore} (h : ps.Lawful) {p : Nat} {r r' : PointRecord}
    (old : ps.table.get? p = some r) (revises : r'.Revises r) :
    PointStore.Lawful { ps with table := ps.table.put p r' } :=
  h.put (h p r old).1 (revises.lawful (h.record old)) ps.owners

theorem PointRecord.Lawful.afterSoftwareReset {r : PointRecord} (h : r.Lawful) : r.afterSoftwareReset.Lawful := by
  obtain ⟨lamps, nodup, ring, alarm, inhibited, -, -⟩ := h
  refine ⟨lamps, nodup, ring, ?_, fun _ => ?_, ?_, ?_⟩
  · simpa [PointRecord.afterSoftwareReset] using alarm
  · cases e : r.alarm <;> simp [PointRecord.afterSoftwareReset, e]
  · intro v hv; cases hv
  · intro v hv; cases hv

theorem Board.Move.points_lawful {b b' : Board} (m : b.Move b') (h : b.points.Lawful) : b'.points.Lawful := by
  cases m with
  | define range new lawful calm free => exact h.put range lawful _
  | delete old =>
    intro q x hx
    rw [Sparse.get?_erase] at hx
    split at hx
    · cases hx
    · exact h q x hx
  | revise old revises same => exact h.revise old revises
  | arrive old revises calm pending entry => exact h.revise old revises
  | withdraw old revises calm => exact h.revise old revises
  | mark keys => exact h
  | prove canonical => exact h
  | clear => exact fun p r hr => nomatch hr
  | restart =>
    intro q x hx
    rw [Sparse.get?_map] at hx
    obtain ⟨r, hr, rfl⟩ := Option.map_eq_some_iff.mp hx
    exact ⟨(h q r hr).1, (h.record hr).afterSoftwareReset⟩

/-! ### The ownership map agrees with the points -/

/-- A record with the lamps of the one it replaces leaves the ownership map in agreement. -/
theorem PointStore.OwnersAgree.put {ps : PointStore} (h : ps.OwnersAgree) {p : Nat} {r r' : PointRecord}
    (old : ps.table.get? p = some r) (lamps : r'.lamps = r.lamps) :
    PointStore.OwnersAgree { ps with table := ps.table.put p r' } := by
  intro lamp q
  rw [h lamp q]
  by_cases e : p = q
  · subst e; simp [old, lamps]
  · simp [e]

theorem PointStore.OwnersAgree.define {ps : PointStore} (h : ps.OwnersAgree) {p : Nat} {r : PointRecord}
    (new : ps.table.get? p = none) (free : ∀ n ∈ r.lamps, ps.owners.get? n.val = none) :
    PointStore.OwnersAgree ⟨ps.table.put p r, claimLamps ps.owners p r.lamps⟩ := by
  intro lamp q
  rw [get?_claimLamps, Sparse.get?_put]
  by_cases own : ∃ n ∈ r.lamps, n.val = lamp
  · have unowned : ps.owners.get? lamp = none := by
      obtain ⟨n, hn, rfl⟩ := own
      exact free n hn
    by_cases e : p = q
    · simp [e, own]
    · have := h lamp q
      rw [unowned] at this
      simpa [e, own] using this
  · by_cases e : p = q
    · subst e
      have := h lamp p
      simp only [new] at this
      simp only [own, if_false, if_true, this]
      simpa using own
    · simpa [e, own] using h lamp q

theorem PointStore.OwnersAgree.delete {ps : PointStore} (h : ps.OwnersAgree) {p : Nat} {r : PointRecord}
    (old : ps.table.get? p = some r) :
    PointStore.OwnersAgree ⟨ps.table.erase p, freeLamps ps.owners r.lamps⟩ := by
  intro lamp q
  rw [get?_freeLamps, Sparse.get?_erase]
  by_cases own : ∃ n ∈ r.lamps, n.val = lamp
  · have owner : ps.owners.get? lamp = some p := (h lamp p).mpr ⟨r, old, own⟩
    by_cases e : p = q
    · simp [e, own]
    · have := h lamp q
      rw [owner] at this
      simpa [e, own] using this
  · by_cases e : p = q
    · subst e
      have := h lamp p
      rw [old] at this
      simpa [own] using this
    · simpa [e, own] using h lamp q

theorem Board.Move.owners_agree {b b' : Board} (m : b.Move b') (h : b.points.OwnersAgree) :
    b'.points.OwnersAgree := by
  cases m with
  | define range new lawful calm free => exact h.define new free
  | delete old => exact h.delete old
  | revise old revises same => exact h.put old revises.lamps
  | arrive old revises calm pending entry => exact h.put old revises.lamps
  | withdraw old revises calm => exact h.put old revises.lamps
  | mark keys => exact h
  | prove canonical => exact h
  | clear => intro lamp q; simp
  | restart =>
    intro lamp q
    rw [h lamp q, Sparse.get?_map]
    cases b.points.table.get? q <;> simp [PointRecord.afterSoftwareReset]

/-! ### The list holds the pending points -/

/-- The list law of a board, with the order of the list. -/
structure Board.Listed (b : Board) : Prop where
  once     : (b.list.map AnnEntry.point).Nodup
  sound    : ∀ e ∈ b.list, ∃ r, b.points.table.get? e.point = some r ∧ r.Pending ∧ e.priority = r.priority ∧
    e.sect = r.sect
  complete : ∀ p r, b.points.table.get? p = some r → r.Pending → ∃ e ∈ b.list, e.point = p
  ordered  : PriorityOrder b.list

theorem State.listed_iff (s : State) : s.board.Listed ↔ s.ListLaw ∧ s.alarm.Ordered := by
  constructor
  · rintro ⟨once, sound, complete, ordered⟩
    refine ⟨⟨once, fun e he => ?_, fun p r hr k i a => complete p r hr ⟨k, i, a⟩⟩, ordered⟩
    obtain ⟨r, hr, ⟨k, i, a⟩, priority, sect⟩ := sound e he
    exact ⟨r, hr, k, i, a, priority, sect⟩
  · rintro ⟨⟨once, sound, complete⟩, ordered⟩
    refine ⟨once, fun e he => ?_, fun p r hr ⟨k, i, a⟩ => complete p r hr k i a, ordered⟩
    obtain ⟨r, hr, k, i, a, priority, sect⟩ := sound e he
    exact ⟨r, hr, ⟨k, i, a⟩, priority, sect⟩

namespace Board.Listed

variable {b : Board} (h : b.Listed)
include h

/-- A point whose record is not pending, or that is undefined, has no entry. -/
theorem not_mem_of_calm {p : Nat} (calm : ∀ r, b.points.table.get? p = some r → ¬ r.Pending) :
    ∀ e ∈ b.list, e.point ≠ p := by
  rintro e he rfl
  obtain ⟨r, hr, pending, -⟩ := h.sound e he
  exact calm r hr pending

/-- A record put in the place of one that is pending exactly when it is keeps the law. -/
theorem put {p : Nat} {r' : PointRecord}
    (same : ∀ e ∈ b.list, e.point = p → r'.Pending ∧ e.priority = r'.priority ∧ e.sect = r'.sect)
    (there : r'.Pending → ∃ e ∈ b.list, e.point = p) (owners : Sparse Nat) :
    Board.Listed { b with points := ⟨b.points.table.put p r', owners⟩ } where
  once := h.once
  sound e he := by
    by_cases ep : p = e.point
    · exact ⟨r', by simp [ep], same e he ep.symm⟩
    · obtain ⟨r, hr, rest⟩ := h.sound e he
      exact ⟨r, by simp [ep, hr], rest⟩
  complete q r hr pending := by
    rw [Sparse.get?_put] at hr
    split at hr
    · next e => exact e ▸ there (Option.some.inj hr ▸ pending)
    · exact h.complete q r hr pending
  ordered := h.ordered

theorem define {p : Nat} {r : PointRecord} (new : b.points.table.get? p = none) (calm : ¬ r.Pending)
    (owners : Sparse Nat) : Board.Listed { b with points := ⟨b.points.table.put p r, owners⟩ } :=
  h.put (fun e he ep => absurd ep (h.not_mem_of_calm (fun _ hx => by simp [new] at hx) e he))
    (fun pending => absurd pending calm) owners

theorem revise {p : Nat} {r r' : PointRecord} (old : b.points.table.get? p = some r) (revises : r'.Revises r)
    (same : r'.Pending ↔ r.Pending) :
    Board.Listed { b with points := { b.points with table := b.points.table.put p r' } } := by
  refine h.put (fun e he ep => ?_) (fun pending => h.complete p r old (same.mp pending)) b.points.owners
  obtain ⟨x, hx, pending, priority, sect⟩ := h.sound e he
  obtain rfl : x = r := by rw [ep, old] at hx; exact (Option.some.inj hx).symm
  exact ⟨same.mpr pending, priority.trans revises.priority.symm, sect.trans revises.sect.symm⟩

/-- A list with the entries of one point taken out, over records of which only that point's has changed. -/
theorem remove {p : Nat} {points : PointStore} (others : ∀ q, q ≠ p → points.table.get? q = b.points.table.get? q)
    (calm : ∀ r, points.table.get? p = some r → ¬ r.Pending) :
    Board.Listed { b with points := points, list := removePoint p b.list } where
  once := h.once.sublist (List.filter_sublist.map _)
  sound e he := by
    obtain ⟨mem, ne⟩ := mem_removePoint.mp he
    obtain ⟨r, hr, rest⟩ := h.sound e mem
    exact ⟨r, (others _ ne).trans hr, rest⟩
  complete q r hr pending := by
    have ne : q ≠ p := by rintro rfl; exact calm r hr pending
    obtain ⟨e, he, rfl⟩ := h.complete q r ((others q ne).symm.trans hr) pending
    exact ⟨e, mem_removePoint.mpr ⟨he, ne⟩, rfl⟩
  ordered := removePoint_priorityOrder p h.ordered

/-- Without an entry of a point, removing it changes nothing. -/
theorem remove_calm {p : Nat} {r : PointRecord} (old : b.points.table.get? p = some r) (calm : ¬ r.Pending) :
    removePoint p b.list = b.list := by
  have absent := h.not_mem_of_calm (p := p) fun x hx => by
    rw [old] at hx; exact Option.some.inj hx ▸ calm
  exact List.filter_eq_self.mpr fun e he => by simpa using absent e he

theorem arrive {p : Nat} {r r' : PointRecord} {e : AnnEntry} (old : b.points.table.get? p = some r)
    (calm : ¬ r.Pending) (pending : r'.Pending) (entry : e.key = (p, r'.priority, r'.sect)) :
    Board.Listed
      { b with
        points := { b.points with table := b.points.table.put p r' }
        list := insertArrival e b.list } := by
  obtain ⟨point, priority, sect⟩ : e.point = p ∧ e.priority = r'.priority ∧ e.sect = r'.sect := by
    simpa [AnnEntry.key] using entry
  have absent := h.not_mem_of_calm (p := p) fun x hx => by
    rw [old] at hx; exact Option.some.inj hx ▸ calm
  refine ⟨?_, fun f hf => ?_, fun q x hx px => ?_, insertArrival_priorityOrder e h.ordered⟩
  · rw [((insertArrival_perm e b.list).map AnnEntry.point).nodup_iff, List.map_cons, List.nodup_cons]
    refine ⟨?_, h.once⟩
    rw [List.mem_map]
    rintro ⟨f, hf, ef⟩
    exact absent f hf (ef.trans point)
  · rcases mem_insertArrival.mp hf with rfl | hf
    · exact ⟨r', by simp [point], pending, priority, sect⟩
    · obtain ⟨x, hx, rest⟩ := h.sound f hf
      exact ⟨x, by simp [Ne.symm (absent f hf), hx], rest⟩
  · rw [Sparse.get?_put] at hx
    split at hx
    · next eq => exact ⟨e, mem_insertArrival.mpr (.inl rfl), point.trans eq⟩
    · obtain ⟨f, hf, rfl⟩ := h.complete q x hx px
      exact ⟨f, mem_insertArrival.mpr (.inr hf), rfl⟩

theorem mark {list : List AnnEntry} (keys : list.map AnnEntry.key = b.list.map AnnEntry.key) :
    Board.Listed { b with list := list } := by
  have entry : ∀ {l m : List AnnEntry}, l.map AnnEntry.key = m.map AnnEntry.key → ∀ e ∈ l, ∃ f ∈ m, f.key = e.key := by
    intro l m hlm e he
    exact List.mem_map.mp (hlm ▸ List.mem_map_of_mem he)
  have points : list.map AnnEntry.point = b.list.map AnnEntry.point := by
    simpa [AnnEntry.key, Function.comp_def] using congrArg (List.map Prod.fst) keys
  refine ⟨?_, fun e he => ?_, fun p r hr pending => ?_, ?_⟩
  · exact points ▸ h.once
  · obtain ⟨f, hf, key⟩ := entry keys e he
    obtain ⟨r, hr, pending, priority, sect⟩ := h.sound f hf
    simp only [AnnEntry.key, Prod.mk.injEq] at key
    obtain ⟨kpoint, kpriority, ksect⟩ := key
    exact ⟨r, kpoint ▸ hr, pending, kpriority ▸ priority, ksect ▸ sect⟩
  · obtain ⟨f, hf, rfl⟩ := h.complete p r hr pending
    obtain ⟨e, he, key⟩ := entry keys.symm f hf
    exact ⟨e, he, congrArg Prod.fst key⟩
  · exact (priorityOrder_iff_keys list).mpr (keys ▸ (priorityOrder_iff_keys b.list).mp h.ordered)

end Board.Listed

/-- An empty list over records none of which is pending. -/
theorem Board.listed_of_calm {points : PointStore} {proving : Sparse ProvingRecord}
    (calm : ∀ p r, points.table.get? p = some r → ¬ r.Pending) : Board.Listed ⟨points, [], proving⟩ where
  once := List.nodup_nil
  sound _ he := nomatch he
  complete p r hr pending := absurd pending (calm p r hr)
  ordered := List.Pairwise.nil

theorem PointRecord.afterSoftwareReset_calm (r : PointRecord) : ¬ r.afterSoftwareReset.Pending := by
  rintro ⟨-, -, pending⟩
  cases e : r.alarm <;> simp [PointRecord.afterSoftwareReset, e] at pending

theorem Board.Move.listed {b b' : Board} (m : b.Move b') (points : b.points.Lawful) (h : b.Listed) : b'.Listed := by
  cases m with
  | define range new lawful calm free => exact h.define new calm _
  | @delete p r old =>
    have removed : Board.Listed { b with
        points := ⟨b.points.table.erase p, freeLamps b.points.owners r.lamps⟩, list := removePoint p b.list } :=
      h.remove (fun q ne => by simp [Ne.symm ne]) (fun x hx => by simp at hx)
    by_cases k : r.kind = .alarm
    · simpa [k] using removed
    · have calm : ¬ r.Pending := fun pending => k pending.1
      simpa [k, h.remove_calm old calm] using removed
  | revise old revises same => exact h.revise old revises (same (points.record old))
  | arrive old revises calm pending entry => exact h.arrive old calm pending entry
  | @withdraw p r r' old revises calm =>
    refine h.remove (fun q ne => by simp [Ne.symm ne]) (fun x hx => ?_)
    obtain rfl : r' = x := by simpa using hx
    exact calm
  | mark keys => exact h.mark keys
  | prove canonical => exact ⟨h.once, h.sound, h.complete, h.ordered⟩
  | clear => exact Board.listed_of_calm fun p r hr => nomatch hr
  | restart =>
    refine Board.listed_of_calm fun p r hr => ?_
    rw [Sparse.get?_map] at hr
    obtain ⟨x, -, rfl⟩ := Option.map_eq_some_iff.mp hr
    exact x.afterSoftwareReset_calm

end Sys2Proof.Machine

/-!
PROOFS. What the Point Store's operations and the alarm machine do to the board.
-/

namespace Sys2Proof.Machine

/-! ## What each operation does to the board -/

/-- One state's board comes from another's by single changes. -/
def State.MovesTo (s t : State) : Prop :=
  Relation.ReflTransGen Board.Move s.board t.board

theorem State.MovesTo.of_board_eq {s t : State} (h : t.board = s.board) : s.MovesTo t := by
  rw [State.MovesTo, h]

theorem State.MovesTo.refl (s : State) : s.MovesTo s := .of_board_eq rfl

theorem State.MovesTo.trans {s t u : State} (h : s.MovesTo t) (k : t.MovesTo u) : s.MovesTo u :=
  Relation.ReflTransGen.trans h k

theorem State.MovesTo.single {s t : State} {b : Board} (m : s.board.Move b) (h : t.board = b) : s.MovesTo t :=
  Relation.ReflTransGen.single (h ▸ m)

/-! ### Board equations of the shared operations -/

@[simp] theorem State.offer_board (s : State) (o : Offer) : (s.offer o).board = s.board := by
  simp [State.board]

@[simp] theorem State.board_offerAlarm (s : State) (p : Nat) (r : PointRecord) (x y : AlarmState) :
    (s.offerAlarm p r x y).board = s.board :=
  s.offer_board _

@[simp] theorem State.offerAdmin_board (s : State) (p : Nat) (k : Fin 16) (a : Byte) (v : Option Nat) :
    (s.offerAdmin p k a v).board = s.board :=
  s.offer_board _

@[simp] theorem State.offerChange_board (s : State) (p : Nat) (k : Fin 16) (x y : Option Nat) :
    (s.offerChange p k x y).board = s.board :=
  s.offer_board _

@[simp] theorem State.catchUp_board (s : State) : s.catchUp.board = s.board := by
  simp [State.board]

@[simp] theorem State.refresh_board (s : State) (n : Fin 128) : (s.refresh n).board = s.board := by
  simp [State.board]

@[simp] theorem State.withList_board (s : State) (list : List AnnEntry) :
    (s.withList list).board = { s.board with list := list } := rfl

@[simp] theorem State.withPoint_board (s : State) (p : Nat) (r : PointRecord) :
    (s.withPoint p r).board =
      { s.board with points := { s.board.points with table := s.board.points.table.put p r } } := rfl

@[simp] theorem State.arrive_board (s : State) (p : Nat) (r : PointRecord) (m : Bool) :
    (s.arrive p r m).board =
      { s.board with list := insertArrival ⟨p, r.priority, r.sect, s.cadence.time, m⟩ s.board.list } := rfl

@[simp] theorem State.withdrawEntry_board (s : State) (p : Nat) :
    (s.withdrawEntry p).board = { s.board with list := removePoint p s.board.list } := rfl

@[simp] theorem State.board_table (s : State) (p : Nat) : s.board.points.table.get? p = s.point? p := rfl

/-! ### Revised records -/

theorem PointRecord.Revises.trans {r x y : PointRecord} (h : y.Revises x) (k : x.Revises r) : y.Revises r :=
  ⟨h.lamps.trans k.lamps, h.priority.trans k.priority, h.sect.trans k.sect, fun l => h.lawful (k.lawful l)⟩

theorem PointRecord.Lawful.kind_of_alarm {r : PointRecord} {a : AlarmState} (h : r.Lawful) (e : r.alarm = some a) :
    r.kind = .alarm := by
  obtain ⟨-, -, -, alarm, -⟩ := h
  exact alarm.mp (by simp [e])

theorem PointRecord.Lawful.normal_of_inhibited {r : PointRecord} (h : r.Lawful) (i : r.inhibited = true) :
    r.alarm.getD .normal = .normal := by
  obtain ⟨-, -, -, -, normal, -⟩ := h
  exact normal i

/-- An alarm state that reads as other than NORMAL is there. -/
theorem PointRecord.alarmState_of_getD {r : PointRecord} {a : AlarmState} (h : r.alarm.getD .normal = a)
    (n : a ≠ .normal) : r.alarm = some a := by
  cases e : r.alarm with
  | none => simp [e] at h; exact absurd h.symm n
  | some x => simpa [e] using h

/-- A new alarm state for an ALARM point, NORMAL if it is inhibited. -/
theorem PointRecord.revises_alarm {r : PointRecord} {a : AlarmState}
    (k : r.Lawful → r.kind = .alarm) (i : r.Lawful → r.inhibited = true → a = .normal) :
    PointRecord.Revises { r with alarm := some a } r where
  lamps := rfl
  priority := rfl
  sect := rfl
  lawful h := by
    obtain ⟨count, nodup, ring, -, -, live, forced⟩ := id h
    exact ⟨count, nodup, ring, ⟨fun _ => k h, fun _ => rfl⟩, i h, live, forced⟩

theorem PointRecord.revises_lastChange (r : PointRecord) (time : Option Word) :
    PointRecord.Revises { r with lastChange := time } r :=
  ⟨rfl, rfl, rfl, fun h => h⟩

theorem PointRecord.revises_live {r : PointRecord} {v : Nat} (a : r.accepts v = true) :
    PointRecord.Revises { r with live := some v } r where
  lamps := rfl
  priority := rfl
  sect := rfl
  lawful h := by
    obtain ⟨count, nodup, ring, alarm, inhibited, -, forced⟩ := h
    exact ⟨count, nodup, ring, alarm, inhibited, fun w hw => Option.some.inj hw ▸ a, forced⟩

theorem PointRecord.revises_forced {r : PointRecord} {v : Option Nat} (a : ∀ w, v = some w → r.accepts w = true) :
    PointRecord.Revises { r with forced := v } r where
  lamps := rfl
  priority := rfl
  sect := rfl
  lawful h := by
    obtain ⟨count, nodup, ring, alarm, inhibited, live, -⟩ := h
    exact ⟨count, nodup, ring, alarm, inhibited, live, a⟩

/-- An alarm point is inhibited with alarm state NORMAL; any other has none. -/
theorem PointRecord.revises_inhibited {r : PointRecord} (k : r.kind ≠ .alarm) :
    PointRecord.Revises { r with inhibited := true } r where
  lamps := rfl
  priority := rfl
  sect := rfl
  lawful h := by
    obtain ⟨count, nodup, ring, alarm, -, live, forced⟩ := h
    refine ⟨count, nodup, ring, alarm, fun _ => ?_, live, forced⟩
    cases e : r.alarm with
    | none => simp
    | some a => exact absurd (alarm.mp (by simp [e])) k

theorem PointRecord.revises_enabled (r : PointRecord) : PointRecord.Revises { r with inhibited := false } r where
  lamps := rfl
  priority := rfl
  sect := rfl
  lawful h := by
    obtain ⟨count, nodup, ring, alarm, -, live, forced⟩ := h
    exact ⟨count, nodup, ring, alarm, fun x => (by cases x), live, forced⟩

/-- Whether a non-inhibited ALARM point is pending is a matter of its alarm state. -/
theorem PointRecord.pending_withAlarm {r : PointRecord} (k : r.kind = .alarm) (i : r.inhibited = false)
    (a : AlarmState) : PointRecord.Pending { r with alarm := some a } ↔ a = .alarmUnack ∨ a = .clearedUnack := by
  simp [PointRecord.Pending, k, i]

/-- A record in an alarm state that does not stand in the list is not pending. -/
theorem PointRecord.calm_of_unlisted {r : PointRecord} (h : (r.alarm.getD .normal).listed = false) : ¬ r.Pending := by
  rintro ⟨-, -, a | a⟩ <;> simp [a, AlarmState.listed] at h

/-! ### The alarm machine (Table 2-2) -/

/-- The move of an alarm state at a value change, with its record and its entry. -/
theorem State.relist_moves {s : State} {p : Nat} {r : PointRecord} (old : s.point? p = some r)
    (k : r.kind = .alarm) (i : r.inhibited = false) {active : Bool} {new : AlarmState}
    (move : (r.alarm.getD .normal).onValue r.ringBack active = some new) :
    s.MovesTo ((s.withPoint p { r with alarm := some new }).relist p r (r.alarm.getD .normal) new) := by
  have revises : PointRecord.Revises { r with alarm := some new } r :=
    PointRecord.revises_alarm (fun _ => k) fun _ x => absurd (i.symm.trans x) Bool.false_ne_true
  have pending := PointRecord.pending_withAlarm k i new
  have stays (same : r.Lawful → (PointRecord.Pending { r with alarm := some new } ↔ r.Pending)) :
      s.MovesTo (s.withPoint p { r with alarm := some new }) := .single (.revise old revises same) rfl
  cases a : r.alarm.getD .normal <;> cases active <;> simp only [a, AlarmState.onValue] at move
  case normal.false => cases move
  case normal.true =>
    cases move
    exact .single (.arrive old revises (PointRecord.calm_of_unlisted (by simp [a, AlarmState.listed]))
      (pending.mpr (.inl rfl)) rfl) rfl
  case alarmUnack.true => cases move
  case alarmUnack.false =>
    cases move
    have a' := PointRecord.alarmState_of_getD a (by decide)
    exact stays fun _ => by simp [PointRecord.Pending, k, i, a']
  case alarmAck.true => cases move
  case alarmAck.false =>
    have calm : ¬ r.Pending := PointRecord.calm_of_unlisted (by simp [a, AlarmState.listed])
    split at move <;> cases move
    · exact .single (.arrive old revises calm (pending.mpr (.inr rfl)) rfl) rfl
    · exact stays fun _ => by simp [pending, calm]
  case clearedUnack.false => cases move
  case clearedUnack.true =>
    cases move
    have a' := PointRecord.alarmState_of_getD a (by decide)
    have revised := stays fun _ => by simp [PointRecord.Pending, k, i, a']
    simp only [State.relist]
    split
    · exact revised.trans (.single (.mark (markPoint_keys p _)) rfl)
    · exact revised

theorem State.valueChange_moves {s : State} {p : Nat} {r : PointRecord} (old : s.point? p = some r)
    (k : r.kind = .alarm) (i : r.inhibited = false) (active : Bool) : s.MovesTo (s.valueChange p r active) := by
  unfold State.valueChange
  dsimp only
  split
  · exact .refl s
  · next new move => exact (State.relist_moves old k i move).trans (.of_board_eq (by simp))

/-! ### Values, inhibition, definition -/

theorem State.withPoint_point? (s : State) (p : Nat) (r : PointRecord) : (s.withPoint p r).point? p = some r := by
  simp

theorem State.handOn_moves {s : State} {p : Nat} {r : PointRecord} (h : s.point? p = some r) (old : Option Nat) :
    s.MovesTo (s.handOn p r old) := by
  unfold State.handOn
  split
  · next k =>
    split
    · exact .refl s
    · next i =>
      split
      · exact .refl s
      · exact State.valueChange_moves h k (by simpa using i) _
  · exact .of_board_eq (by simp)
  · exact .of_board_eq (by simp)

theorem State.settle_moves (s : State) (p : Nat) (old : Option Nat) : s.MovesTo (s.settle p old) := by
  unfold State.settle
  split
  · exact .refl s
  · next r hr =>
    split
    · exact .refl s
    · have stamped : s.MovesTo (s.withPoint p { r with lastChange := some s.cadence.time }) :=
        .single (.revise hr (r.revises_lastChange (some s.cadence.time)) fun _ => .rfl) rfl
      exact stamped.trans (State.handOn_moves (s.withPoint_point? p _) old)

theorem State.applies_eq_some {s : State} {u : Update} {r : PointRecord} :
    s.applies u = some r ↔
      u.point.toNat < 2048 ∧ s.point? u.point.toNat = some r ∧ r.accepts u.value.toNat = true := by
  unfold State.applies
  split
  · next range =>
    cases e : s.point? u.point.toNat with
    | none => simp
    | some x =>
      cases a : x.accepts u.value.toNat <;> simp only [a, if_true, if_false, Bool.false_eq_true, Option.some.injEq] <;>
        constructor
      · intro h; cases h
      · rintro ⟨-, rfl, h⟩; rw [a] at h; cases h
      · rintro rfl; exact ⟨range, rfl, a⟩
      · rintro ⟨-, rfl, -⟩; rfl
  · next range => simp [range]

theorem State.applyUpdate_moves {s : State} {u : Update} {r : PointRecord} (h : s.applies u = some r) :
    s.MovesTo (s.applyUpdate u r) := by
  obtain ⟨-, old, accepts⟩ := State.applies_eq_some.mp h
  have written : s.MovesTo (s.catchUp.withPoint u.point.toNat { r with live := some u.value.toNat }) :=
    .single (.revise old (PointRecord.revises_live accepts) fun _ => .rfl) (by simp)
  exact (written.trans (.of_board_eq (by simp))).trans (State.settle_moves _ _ _)

theorem updatesFrom_moves (us : List Update) :
    ∀ (position : Nat) (b : Batch), b.state.MovesTo (updatesFrom position us b).state := by
  induction us with
  | nil => exact fun _ b => .refl b.state
  | cons u rest ih =>
    intro position b
    refine State.MovesTo.trans ?_ (ih (position + 1) _)
    split
    · next r hr => exact State.applyUpdate_moves hr
    · exact .refl b.state

/-- An answer to a request that names a point, by what it does for a defined point. -/
theorem State.withNamed_moves {s : State} {point : Half} {f : Nat → PointRecord → Answer}
    (h : ∀ r, s.point? point.toNat = some r → s.MovesTo (f point.toNat r).state) :
    s.MovesTo (s.withNamed point f).state := by
  unfold State.withNamed
  split
  · split
    · exact .refl s
    · next r hr => exact h r hr
  · exact .refl s

theorem PointRecord.accepts_kind (r : PointRecord) (v : Nat) :
    r.accepts v = true ↔ (r.kind ≠ .band → v ≤ 1) ∧ (r.kind = .band → v ≤ r.lamps.length) := by
  cases k : r.kind <;> simp [PointRecord.accepts, k]

/-- A record that a DEFINE POINT describes is lawful, and not pending. -/
theorem recordOf_new {d : DefineArgs} {r : PointRecord} (h : recordOf d = some r) : r.Lawful ∧ ¬ r.Pending := by
  unfold recordOf at h
  split at h
  · next kind outstation sect priority ring lamps _ _ _ _ _ _ =>
    split at h
    · next allowed =>
      cases h
      refine ⟨⟨allowed.1, allowed.2, ?_, ?_, fun x => (by cases x), fun v x => (by cases x), fun v x => (by cases x)⟩,
        ?_⟩
      · cases kind <;> simp
      · cases kind <;> simp
      · rintro ⟨k, -, pending⟩
        have isAlarm : kind = .alarm := k
        simp [isAlarm] at pending
    · cases h
  · cases h

theorem definePointAnswer_moves (d : DefineArgs) (s : State) : s.MovesTo (definePointAnswer d s).state := by
  unfold definePointAnswer
  dsimp only
  split
  · exact .refl s
  · next range =>
    split
    · exact .refl s
    · next new =>
      split
      · exact .refl s
      · next r hr =>
        split
        · exact .refl s
        · next free =>
          obtain ⟨lawful, calm⟩ := recordOf_new hr
          refine .single (.define (Nat.lt_of_not_le range) (by simpa using new) lawful calm ?_) ?_
          · simpa [State.board] using free
          · simp [State.board]

theorem deletePointAnswer_moves (point : Half) (s : State) : s.MovesTo (deletePointAnswer point s).state := by
  refine State.withNamed_moves fun r old => .single (.delete old) ?_
  by_cases k : r.kind = .alarm <;> simp [State.board, k, State.withdrawEntry]

theorem forcePointAnswer_moves (point : Half) (v : Byte) (s : State) :
    s.MovesTo (forcePointAnswer point v s).state := by
  refine State.withNamed_moves fun r old => ?_
  split
  · next accepts =>
    have forced : s.MovesTo (s.catchUp.withPoint point.toNat { r with forced := some v.toNat }) :=
      .single (.revise old (PointRecord.revises_forced fun w hw => Option.some.inj hw ▸ accepts) fun _ => .rfl)
        (by simp)
    exact (forced.trans (.of_board_eq (by simp))).trans (State.settle_moves _ _ _)
  · exact .refl s

theorem releasePointAnswer_moves (point : Half) (s : State) : s.MovesTo (releasePointAnswer point s).state := by
  refine State.withNamed_moves fun r old => ?_
  split
  · have released : s.MovesTo (s.catchUp.withPoint point.toNat { r with forced := none }) :=
      .single (.revise old (PointRecord.revises_forced (v := none) fun w hw => nomatch hw) fun _ => .rfl) (by simp)
    exact (released.trans (.of_board_eq (by simp))).trans (State.settle_moves _ _ _)
  · exact .refl s

theorem inhibitPointAnswer_moves (point : Half) (s : State) : s.MovesTo (inhibitPointAnswer point s).state := by
  refine State.withNamed_moves fun r old => ?_
  split
  · exact .refl s
  · by_cases k : r.kind = .alarm
    · have revises : PointRecord.Revises { r with inhibited := true, alarm := some .normal } r :=
        ⟨rfl, rfl, rfl, fun ⟨count, nodup, ring, _, _, live, forced⟩ =>
          ⟨count, nodup, ring, ⟨fun _ => k, fun _ => rfl⟩, fun _ => rfl, live, forced⟩⟩
      refine .single (.withdraw old revises fun pending => by simp [PointRecord.Pending] at pending) ?_
      simp [k]
    · refine .single (.revise old (PointRecord.revises_inhibited k) fun _ => ?_) (by simp [k])
      simp [PointRecord.Pending, k]

theorem enablePointAnswer_moves (point : Half) (s : State) : s.MovesTo (enablePointAnswer point s).state := by
  refine State.withNamed_moves fun r old => ?_
  split
  · next inhibited =>
    have calm : ¬ r.Pending := fun ⟨_, enabled, _⟩ => absurd (inhibited.symm.trans enabled) Bool.noConfusion
    by_cases arrives : r.kind = .alarm ∧ r.effective = some 1
    · have revises : PointRecord.Revises { r with inhibited := false, alarm := some .alarmUnack } r :=
        (PointRecord.revises_alarm (r := { r with inhibited := false }) (fun _ => arrives.1)
          fun _ x => (by cases x)).trans r.revises_enabled
      refine .single (.arrive (e := ⟨point.toNat, r.priority, r.sect, s.cadence.time, s.alarm.sounds r.priority⟩) old
        revises calm ⟨arrives.1, rfl, .inl rfl⟩ rfl) ?_
      simp [arrives, State.enableArrival, Sparse.put_put]
    · refine .single (.revise old r.revises_enabled fun lawful => ?_) (by simp [arrives])
      refine iff_of_false (PointRecord.calm_of_unlisted ?_) calm
      simp [lawful.normal_of_inhibited inhibited, AlarmState.listed]
  · exact .refl s

end Sys2Proof.Machine

/-!
PROOFS. What every other operation does to the board; the invariants of the points and the list (O59).
-/

namespace Sys2Proof.Machine

/-! ### Acknowledgement and SILENCE -/

/-- What an acknowledgement moves, and where to (Table 2-5). -/
theorem AlarmState.onAck_eq_some {a new : AlarmState} :
    a.onAck = some new ↔ a = .alarmUnack ∧ new = .alarmAck ∨ a = .clearedUnack ∧ new = .normal := by
  cases a <;> simp [AlarmState.onAck, eq_comm]

theorem State.acknowledgeEntry_moves (source : Source) (s : State) (e : AnnEntry) :
    s.MovesTo (s.acknowledgeEntry source e) := by
  unfold State.acknowledgeEntry
  split
  · exact .refl s
  · next r old =>
    dsimp only
    split
    · exact .refl s
    · next new move =>
      have stood : r.alarm.getD .normal ≠ .normal ∧ ¬ (new = .alarmUnack ∨ new = .clearedUnack) := by
        rcases AlarmState.onAck_eq_some.mp move with ⟨a, rfl⟩ | ⟨a, rfl⟩ <;> simp [a]
      obtain ⟨notNormal, leaves⟩ := stood
      have revises : PointRecord.Revises { r with alarm := some new } r :=
        PointRecord.revises_alarm (fun l => l.kind_of_alarm (PointRecord.alarmState_of_getD rfl notNormal))
          fun l i => absurd (l.normal_of_inhibited i) notNormal
      refine .single (.withdraw old revises fun pending => leaves ?_) (by simp; rfl)
      obtain ⟨-, -, alarm⟩ := pending
      simpa using alarm

theorem State.acknowledgeFold_moves (source : Source) (entries : List AnnEntry) :
    ∀ s : State, s.MovesTo (entries.foldl (State.acknowledgeEntry source) s) := by
  induction entries with
  | nil => exact .refl
  | cons e rest ih => exact fun s => (State.acknowledgeEntry_moves source s e).trans (ih _)

theorem State.acknowledgeEntries_moves (source : Source) (s : State) (entries : List AnnEntry) :
    s.MovesTo (s.acknowledgeEntries source entries) := by
  cases entries with
  | nil => exact .refl s
  | cons e rest => exact .trans (.of_board_eq s.catchUp_board) (State.acknowledgeFold_moves source (e :: rest) _)

theorem acknowledgeAnswer_moves (scope : Byte) (argument : Half) (s : State) :
    s.MovesTo (acknowledgeAnswer scope argument s).state := by
  unfold acknowledgeAnswer
  dsimp only
  have taken := State.acknowledgeEntries_moves .host s
  split
  · split
    · split
      · exact .refl s
      · split
        · split
          · exact .refl s
          · exact taken _
        · exact .refl s
    · exact .refl s
  · split
    · split
      · exact .refl s
      · exact taken _
    · split
      · exact taken _
      · split
        · exact taken _
        · exact .refl s

theorem State.silenceHorn_moves (s : State) (source : Source) : s.MovesTo (s.silenceHorn source) := by
  have keys : (s.alarm.list.map fun e => { e with mark := false }).map AnnEntry.key =
      s.alarm.list.map AnnEntry.key := by
    rw [List.map_map]; rfl
  exact .single (.mark keys) (by simp [State.silenceHorn])

/-! ### Operations that leave the points and the list -/

@[simp] theorem State.followPhase_list (s : State) (g : Generator) : (s.followPhase g).alarm.list = s.alarm.list := by
  cases g <;> rfl

theorem State.togglePhase_board (g : Generator) (s : State) : (s.togglePhase g).board = s.board := by
  unfold State.togglePhase
  split <;> simp [State.board]

theorem setCadenceAnswer_board (g : Byte) (prescale : Half) (lit dark run : Byte) (s : State) :
    (setCadenceAnswer g prescale lit dark run s).state.board = s.board := by
  unfold setCadenceAnswer
  (repeat' split) <;> simp [State.refuse, State.board]

theorem storePeriodsFrom_board (ps : List Half) :
    ∀ (number : Nat) (s : State), (storePeriodsFrom number ps s).board = s.board := by
  induction ps with
  | nil => exact fun _ _ => rfl
  | cons p rest ih =>
    intro number s
    rw [storePeriodsFrom, ih]
    split <;> simp [State.board]

theorem heartbeatFrom_board (os : List Byte) :
    ∀ (position : Nat) (b : Batch), (heartbeatFrom position os b).state.board = b.state.board := by
  induction os with
  | nil => exact fun _ _ => rfl
  | cons x rest ih =>
    intro position b
    rw [heartbeatFrom, ih]
    split <;> simp [Batch.apply, Batch.skip]

/-! ### The slot comparison and the resets -/

theorem putProving_wf {t : Sparse ProvingRecord} (lamp : Nat) (r : ProvingRecord) (h : t.wf) :
    (putProving t lamp r).wf := by
  unfold putProving
  split
  · exact Sparse.wf_erase t lamp h
  · exact Sparse.wf_put t lamp r h

theorem SlotReport.moved_wf (r : SlotReport) (sense : Flags) {t : Sparse ProvingRecord} (h : t.wf) :
    (r.moved sense t).wf := by
  have fold : ∀ (os : List (Fin 64)) (u : Sparse ProvingRecord), u.wf →
      (os.foldl (fun u o => putProving u (r.lamp o.val) (r.observed sense t o)) u).wf := by
    intro os
    induction os with
    | nil => exact fun _ hu => hu
    | cons o rest ih => exact fun u hu => ih _ (putProving_wf _ _ hu)
  exact fold r.outputs t h

theorem State.compareSlot_moves (s : State) (r : SlotReport) : s.MovesTo (s.compareSlot r) := by
  unfold State.compareSlot
  split
  · exact .refl s
  · next w _ =>
    split
    · have moved : s.MovesTo { s with proving := r.moved w.sense s.proving } :=
        .single (.prove fun h => r.moved_wf w.sense h) rfl
      dsimp only
      split
      · exact moved
      · exact moved.trans (.of_board_eq (State.offer_board _ _))
    · exact .refl s

theorem State.endSlot_moves (l : Loop) (window : List RxChar) (s : State) : s.MovesTo (s.endSlot l window) := by
  unfold State.endSlot
  split
  · exact .refl s
  · split
    · exact .refl s
    · dsimp only
      split
      · refine .trans (.of_board_eq ?_) (State.compareSlot_moves _ _)
        simp [State.board]
      all_goals exact .of_board_eq (by simp [State.board])

theorem State.clearForMemoryTest_moves (s : State) : s.MovesTo s.clearForMemoryTest :=
  .single .clear rfl

theorem runTestAnswer_moves (kind : Byte) (s : State) : s.MovesTo (runTestAnswer kind s).state := by
  unfold runTestAnswer
  split
  · split
    · dsimp only
      split
      · exact .trans (.of_board_eq rfl) (State.clearForMemoryTest_moves _)
      · exact .of_board_eq (by simp [State.board])
    · exact .refl s
  · exact .refl s

theorem State.endResetReply_moves (s : State) : s.MovesTo s.endResetReply := by
  unfold State.endResetReply
  split
  · exact .single .restart rfl
  · exact .refl s

theorem State.negateReset_moves (straps : Straps) (s : State) : s.MovesTo (s.negateReset straps) := by
  refine .single .clear ?_
  unfold State.negateReset
  split <;> rfl

theorem State.onAckPress_moves (s : State) (formed : Bool) : s.MovesTo (s.onAckPress formed) := by
  unfold State.onAckPress State.deskAcknowledge
  split
  · exact State.acknowledgeEntries_moves .desk s _
  · exact .refl s

theorem State.onSilencePress_moves (s : State) (formed : Bool) : s.MovesTo (s.onSilencePress formed) := by
  unfold State.onSilencePress
  split
  · exact s.silenceHorn_moves .desk
  · exact .refl s

theorem State.onLampTestKey_moves (s : State) (before after : Bool) : s.MovesTo (s.onLampTestKey before after) :=
  .of_board_eq (by simp [State.board])

theorem State.sampleDesk_moves (pins : DeskPins) (s : State) : s.MovesTo (s.sampleDesk pins) := by
  unfold State.sampleDesk
  split
  · dsimp only
    split
    · refine .trans ?_ (State.onLampTestKey_moves _ _ _)
      refine .trans ?_ (State.onSilencePress_moves _ _)
      refine .trans ?_ (State.onAckPress_moves _ _)
      exact .of_board_eq rfl
    · exact .of_board_eq rfl
  · exact .refl s

/-! ### The requests and the step -/

/-- What a request does to the board. -/
theorem Request.Known.owner_moves {r : Request} (k : r.Known) (s : State) : s.MovesTo (r.owner s).state := by
  cases k with
  | readStatus => exact .refl s
  | setModeOnline =>
    show s.MovesTo (setModeOnlineAnswer s).state
    unfold setModeOnlineAnswer
    split <;> exact .of_board_eq (by simp [State.board])
  | setModeOffline =>
    show s.MovesTo (setModeOfflineAnswer s).state
    unfold setModeOfflineAnswer
    dsimp only
    (repeat' split) <;> exact .of_board_eq (by simp [State.board])
  | setModeOther => exact .refl s
  | reset => exact .refl s
  | runTest kind => exact runTestAnswer_moves kind s
  | abortTest =>
    show s.MovesTo (abortTestAnswer s).state
    unfold abortTestAnswer
    split <;> exact .of_board_eq (by simp [State.board, State.refuse])
  | readTestResults => exact .refl s
  | definePoint d => exact definePointAnswer_moves d s
  | deletePoint p => exact deletePointAnswer_moves p s
  | readPoint p => exact State.withNamed_moves fun r _ => .refl s
  | updatePoints us => exact updatesFrom_moves us 0 ⟨s, 0, none⟩
  | forcePoint p v => exact forcePointAnswer_moves p v s
  | releasePoint p => exact releasePointAnswer_moves p s
  | inhibitPoint p => exact inhibitPointAnswer_moves p s
  | enablePoint p => exact enablePointAnswer_moves p s
  | acknowledge scope argument => exact acknowledgeAnswer_moves scope argument s
  | silence => exact s.silenceHorn_moves .host
  | readAnnunciation start count =>
    show s.MovesTo (readAnnunciationAnswer start count s).state
    unfold readAnnunciationAnswer
    split <;> exact .refl s
  | setHornThreshold v =>
    show s.MovesTo (setHornThresholdAnswer v s).state
    unfold setHornThresholdAnswer
    split <;> exact .of_board_eq rfl
  | setDeskControl enable period =>
    show s.MovesTo (setDeskControlAnswer enable period s).state
    unfold setDeskControlAnswer
    split <;> exact .of_board_eq (by simp [State.board, State.refuse])
  | configureTile loop slot size enable =>
    show s.MovesTo (configureTileAnswer loop slot size enable s).state
    unfold configureTileAnswer
    split <;> exact .of_board_eq (by simp [State.board, State.refuse])
  | setLoopTiming loop period =>
    show s.MovesTo (setLoopTimingAnswer loop period s).state
    unfold setLoopTimingAnswer
    (repeat' split) <;> exact .of_board_eq (by simp [State.board, State.refuse])
  | setIntensity v =>
    show s.MovesTo (setIntensityAnswer v s).state
    unfold setIntensityAnswer
    split <;> exact .of_board_eq rfl
  | lampTest d =>
    show s.MovesTo (lampTestAnswer d s).state
    unfold lampTestAnswer
    (repeat' split) <;> exact .of_board_eq (by simp [State.board, State.refuse])
  | readLoopStatus loop =>
    show s.MovesTo (readLoopStatusAnswer loop s).state
    unfold readLoopStatusAnswer
    split <;> exact .refl s
  | readLampFaults start =>
    show s.MovesTo (readLampFaultsAnswer start s).state
    unfold readLampFaultsAnswer
    split <;> exact .refl s
  | setCadence g prescale lit dark run => exact .of_board_eq (setCadenceAnswer_board g prescale lit dark run s)
  | setTime time => exact .of_board_eq rfl
  | setSupervision mode period =>
    show s.MovesTo (setSupervisionAnswer mode period s).state
    unfold setSupervisionAnswer
    dsimp only
    (repeat' split) <;> exact .of_board_eq (by simp [State.board, State.refuse])
  | setOutstationPeriods first ps =>
    show s.MovesTo (setOutstationPeriodsAnswer first ps s).state
    unfold setOutstationPeriodsAnswer
    split
    · exact .of_board_eq (storePeriodsFrom_board ps _ s)
    · exact .refl s
  | siteHeartbeat os => exact .of_board_eq (heartbeatFrom_board os 0 ⟨s, 0, none⟩)
  | readOutstations first count =>
    show s.MovesTo (readOutstationsAnswer first count s).state
    unfold readOutstationsAnswer
    split <;> exact .refl s
  | readJournal count =>
    show s.MovesTo (readJournalAnswer count s).state
    unfold readJournalAnswer
    split <;> exact .of_board_eq rfl
  | setJournalSelection vs =>
    show s.MovesTo (setJournalSelectionAnswer vs s).state
    unfold setJournalSelectionAnswer
    split <;> exact .of_board_eq rfl
  | misSized kind duringTest => exact .refl s

/-- Every step moves the board by single changes. -/
theorem movesTo_stepRelation : StepRelation State.MovesTo where
  refl := .refl
  trans := .trans
  nextCommand _ _ := .of_board_eq rfl
  startPass s := .of_board_eq (by simp [State.board])
  togglePhase g s := .of_board_eq (s.togglePhase_board g)
  startFrame l s := .of_board_eq (by simp [State.board])
  expirePrescale g s := .of_board_eq (by simp [State.board])
  expireFrameTimer l s := .of_board_eq (by simp [State.board])
  expireLink s := .of_board_eq (by simp [State.board])
  expireOutstation n s := .of_board_eq (by simp [State.board])
  expireGap s := .of_board_eq (by simp [State.board])
  expireHostTimer s := .of_board_eq (by simp [State.board])
  sampleDesk := State.sampleDesk_moves
  countTick _ := .of_board_eq rfl
  endPass s := by
    unfold State.endPass
    split <;> exact .of_board_eq (by simp [State.board])
  endSlot := State.endSlot_moves
  endFrame l s := .of_board_eq (by simp [State.board])
  completeMemoryTest passed s := .of_board_eq (by simp [State.board])
  receive c s := .of_board_eq (by simp [State.board])
  enqueue _ _ := .of_board_eq rfl
  dequeue _ _ _ _ := .of_board_eq rfl
  owner _ s k := k.owner_moves s
  sendReply s _ _ _ _ := .of_board_eq rfl
  endResetReply := State.endResetReply_moves
  assertReset _ := .of_board_eq rfl
  negateReset := State.negateReset_moves

theorem Board.keeps_of_moves {P : Board → Prop} (keeps : ∀ b b', Board.Move b b' → P b → P b') {b b' : Board}
    (moves : Relation.ReflTransGen Board.Move b b') (h : P b) : P b' := by
  induction moves with
  | refl => exact h
  | tail _ m ih => exact keeps _ _ m ih

/-- What every single change of the board keeps, every step keeps. -/
theorem step_keeps_board {P : Board → Prop} (keeps : ∀ b b', Board.Move b b' → P b → P b') {s t : State}
    (e : step s = .next t) (h : P s.board) : P t.board :=
  Board.keeps_of_moves keeps (movesTo_stepRelation.step e) h

/-- Settles O59: every step is a run of single changes of the board, and each of these keeps the laws. The list law
goes together with the law of the points, because a record's alarm state agrees with its kind and its inhibition. -/
theorem stepsKeepPointsAndList : Obligations.StepsKeepPointsAndList := by
  refine ⟨fun s t canonical e => ?_, fun s t lawful agree e => ?_, fun s t lawful list ordered e => ?_⟩
  · exact step_keeps_board (P := Board.Canonical) (fun _ _ m => m.canonical) e canonical
  · exact ⟨step_keeps_board (P := fun b => b.points.Lawful) (fun _ _ m => m.points_lawful) e lawful,
      step_keeps_board (P := fun b => b.points.OwnersAgree) (fun _ _ m => m.owners_agree) e agree⟩
  · have both := step_keeps_board (P := fun b => b.points.Lawful ∧ b.Listed)
      (fun _ _ m h => ⟨m.points_lawful h.1, m.listed h.1 h.2⟩) e ⟨lawful, s.listed_iff.mpr ⟨list, ordered⟩⟩
    exact t.listed_iff.mp both.2

end Sys2Proof.Machine

/-!
PROOFS. Quality (O17); fields out of range (O11) and requests that name an undefined point (O24).
-/

namespace Sys2Proof.Machine

/-! ## Quality (R4) -/

/-- Settles O17: the rows of Table 1-3 in their order. -/
theorem qualityFollowsItsTable : Obligations.QualityFollowsItsTable := by
  intro u r
  refine ⟨fun forced => ?_, fun forced live => ?_, fun forced live lost => ?_, fun forced live link station => ?_⟩
  · simp [SupervisionUnit.quality, forced]
  · simp [SupervisionUnit.quality, forced, live]
  · obtain ⟨v, hv⟩ := Option.isSome_iff_exists.mp live
    simp [SupervisionUnit.quality, forced, hv, lost]
  · obtain ⟨v, hv⟩ := Option.isSome_iff_exists.mp live
    simp [SupervisionUnit.quality, forced, hv, link, station]

/-! ## Codes and bounded fields -/

theorem boundedOf_of_le {n v : Nat} (h : n ≤ v) : boundedOf n v = none :=
  dif_neg (Nat.not_lt.mpr h)

theorem boundedOf_of_lt {n v : Nat} (h : v < n) : boundedOf n v = some ⟨v, h⟩ :=
  dif_pos h

theorem ne_ofNat_of_lt {code : Byte} {k : Nat} (h : k < code.toNat) : code ≠ BitVec.ofNat 8 k := by
  rintro rfl
  rw [BitVec.toNat_ofNat] at h
  omega

theorem loopOfCode_of_le {code : Byte} (h : 2 ≤ code.toNat) : loopOfCode code = none := by
  have n0 : code ≠ 0#8 := ne_ofNat_of_lt (by omega)
  have n1 : code ≠ 1#8 := ne_ofNat_of_lt (by omega)
  simp [loopOfCode, n0, n1]

theorem yesNoOf_of_le {code : Byte} (h : 2 ≤ code.toNat) : yesNoOf code = none := by
  have n0 : code ≠ 0#8 := ne_ofNat_of_lt (by omega)
  have n1 : code ≠ 1#8 := ne_ofNat_of_lt (by omega)
  simp [yesNoOf, n0, n1]

theorem generatorOfCode_of_le {code : Byte} (h : 3 ≤ code.toNat) : generatorOfCode code = none := by
  have n0 : code ≠ 0#8 := ne_ofNat_of_lt (by omega)
  have n1 : code ≠ 1#8 := ne_ofNat_of_lt (by omega)
  have n2 : code ≠ 2#8 := ne_ofNat_of_lt (by omega)
  simp [generatorOfCode, n0, n1, n2]

theorem LinkMode.ofCode_of_le {code : Byte} (h : 3 ≤ code.toNat) : LinkMode.ofCode code = none := by
  have n0 : code ≠ 0#8 := ne_ofNat_of_lt (by omega)
  have n1 : code ≠ 1#8 := ne_ofNat_of_lt (by omega)
  have n2 : code ≠ 2#8 := ne_ofNat_of_lt (by omega)
  simp [LinkMode.ofCode, n0, n1, n2]

/-! ## Fields out of range, answer by answer (R11 and the rules of each block) -/

/-- A request that passes during tests and is refused by its owner, to a part that serves. -/
theorem State.request_refused_always {s : State} {r : Request} {x : Status} (h : s.serves = true) (c : Instr)
    (d : r.duringTest = true) (z : r.sized = true) (n : x ≠ .ok) (a : r.owner s = s.refuse x) :
    s.request c r = .next (s.sendReply (r.kind + 0x80) x [] false) := by
  rw [State.request_of_serves h c r, State.serve, State.gate_passes_always d z, a, Answer.reply_refused s x r.kind n]

theorem readJournalAnswer_range {count : Byte} (h : count = 0 ∨ 16 < count.toNat) (s : State) :
    readJournalAnswer count s = s.refuse .range := by
  have out : ¬ (1 ≤ count.toNat ∧ count.toNat ≤ 16) := by
    rintro ⟨one, most⟩
    rcases h with rfl | more
    · simp at one
    · omega
  simp [readJournalAnswer, out]

theorem setHornThresholdAnswer_range {v : Byte} (h : 4 ≤ v.toNat) (s : State) :
    setHornThresholdAnswer v s = s.refuse .range := by
  simp [setHornThresholdAnswer, boundedOf_of_le h]

theorem setIntensityAnswer_range {v : Byte} (h : 16 ≤ v.toNat) (s : State) :
    setIntensityAnswer v s = s.refuse .range := by
  simp [setIntensityAnswer, boundedOf_of_le h]

theorem readLoopStatusAnswer_range {loop : Byte} (h : 2 ≤ loop.toNat) (s : State) :
    readLoopStatusAnswer loop s = s.refuse .range := by
  simp [readLoopStatusAnswer, loopOfCode_of_le h]

theorem setLoopTimingAnswer_range {loop : Byte} {period : Half}
    (h : 2 ≤ loop.toNat ∨ period.toNat < 20 ∨ 200 < period.toNat) (s : State) :
    setLoopTimingAnswer loop period s = s.refuse .range := by
  unfold setLoopTimingAnswer
  split
  · rfl
  · next l known =>
    have valid : ¬ 2 ≤ loop.toNat := fun le => by simp [loopOfCode_of_le le] at known
    exact if_neg (by omega)

theorem configureTileAnswer_range {loop slot size enable : Byte}
    (h : 2 ≤ loop.toNat ∨ 32 ≤ slot.toNat ∨ (size ≠ 16 ∧ size ≠ 32 ∧ size ≠ 64) ∨ 2 ≤ enable.toNat) (s : State) :
    configureTileAnswer loop slot size enable s = s.refuse .range := by
  unfold configureTileAnswer
  split
  · next l n z e kl kn kz ke =>
    rcases h with h | h | ⟨h16, h32, h64⟩ | h
    · simp [loopOfCode_of_le h] at kl
    · simp [boundedOf_of_le h] at kn
    · rw [TileSize.ofCode, if_neg h16, if_neg h32, if_neg h64] at kz; cases kz
    · simp [yesNoOf_of_le h] at ke
  · rfl

theorem setJournalSelectionAnswer_range {vs : List Byte} (h : ∃ v ∈ vs, 15 < v.toNat) (s : State) :
    setJournalSelectionAnswer vs s = s.refuse .range := by
  have some_out : ¬ (vs.all fun v => v.toNat ≤ 15) = true := by simpa using h
  simp [setJournalSelectionAnswer, some_out]

theorem acknowledgeAnswer_range {scope : Byte} {argument : Half}
    (h : 4 ≤ scope.toNat ∨ (scope = 0 ∧ 2048 ≤ argument.toNat) ∨ (scope = 1 ∧ 16 ≤ argument.toNat)) (s : State) :
    acknowledgeAnswer scope argument s = s.refuse .range := by
  rcases h with h | ⟨rfl, h⟩ | ⟨rfl, h⟩
  · have n0 : scope ≠ 0#8 := ne_ofNat_of_lt (by omega)
    have n1 : scope ≠ 1#8 := ne_ofNat_of_lt (by omega)
    have n2 : scope ≠ 2#8 := ne_ofNat_of_lt (by omega)
    have n3 : scope ≠ 3#8 := ne_ofNat_of_lt (by omega)
    simp [acknowledgeAnswer, n0, n1, n2, n3]
  · simp [acknowledgeAnswer, Nat.not_lt.mpr h]
  · simp [acknowledgeAnswer, boundedOf_of_le h]

theorem readAnnunciationAnswer_range {start : Half} {count : Byte}
    (h : 2048 ≤ start.toNat ∨ count = 0 ∨ 128 < count.toNat) (s : State) :
    readAnnunciationAnswer start count s = s.refuse .range := by
  have out : ¬ (start.toNat < 2048 ∧ 1 ≤ count.toNat ∧ count.toNat ≤ 128) := by
    rintro ⟨lt, one, most⟩
    rcases h with h | rfl | h
    · omega
    · simp at one
    · omega
  simp [readAnnunciationAnswer, out]

theorem runTestAnswer_range {kind : Byte} (n1 : kind ≠ 1) (n2 : kind ≠ 2) (s : State) :
    runTestAnswer kind s = s.refuse .range :=
  if_neg fun h => h.elim n1 n2

theorem lampTestAnswer_range {duration : Byte} (h : 60 < duration.toNat) (s : State) :
    lampTestAnswer duration s = s.refuse .range := by
  simp [lampTestAnswer, Nat.not_le.mpr h]

theorem setDeskControlAnswer_range {enable period : Byte}
    (h : 2 ≤ enable.toNat ∨ (period ≠ 1 ∧ period ≠ 4 ∧ period ≠ 16)) (s : State) :
    setDeskControlAnswer enable period s = s.refuse .range := by
  refine if_neg fun ⟨e, p⟩ => ?_
  rcases h with h | ⟨n1, n4, n16⟩
  · omega
  · exact p.elim n1 (·.elim n4 n16)

theorem setCadenceAnswer_range {g : Byte} {prescale : Half} {lit dark run : Byte}
    (h : 3 ≤ g.toNat ∨ prescale = 0 ∨ 256 < prescale.toNat ∨ lit = 0 ∨ dark = 0 ∨ 2 ≤ run.toNat) (s : State) :
    setCadenceAnswer g prescale lit dark run s = s.refuse .range := by
  unfold setCadenceAnswer
  split
  · rfl
  · next x known =>
    refine if_neg fun ⟨p1, p256, l1, d1, r1⟩ => ?_
    rcases h with h | rfl | h | rfl | rfl | h
    · simp [generatorOfCode_of_le h] at known
    · simp at p1
    · omega
    · simp at l1
    · simp at d1
    · omega

theorem setSupervisionAnswer_range {mode period : Byte} (h : 3 ≤ mode.toNat ∨ period = 0) (s : State) :
    setSupervisionAnswer mode period s = s.refuse .range := by
  unfold setSupervisionAnswer
  split
  · rfl
  · next m known =>
    have zero : period = 0 := h.resolve_left fun le => by simp [LinkMode.ofCode_of_le le] at known
    exact if_pos zero

theorem setOutstationPeriodsAnswer_range {first : Byte} {ps : List Half}
    (h : 128 ≤ first.toNat ∨ 128 < first.toNat + ps.length ∨ ∃ p ∈ ps, 3600 < p.toNat) (s : State) :
    setOutstationPeriodsAnswer first ps s = s.refuse .range := by
  refine if_neg fun ⟨f, n, all⟩ => ?_
  rcases h with h | h | ⟨p, hp, h⟩
  · omega
  · omega
  · have := List.all_eq_true.mp all p hp
    simp only [decide_eq_true_eq] at this
    omega

theorem readOutstationsAnswer_range {first count : Byte}
    (h : 128 ≤ first.toNat ∨ count = 0 ∨ 128 < count.toNat) (s : State) :
    readOutstationsAnswer first count s = s.refuse .range := by
  refine if_neg fun ⟨f, one, most⟩ => ?_
  rcases h with h | rfl | h
  · omega
  · simp at one
  · omega

theorem readLampFaultsAnswer_range {start : Half} (h : 4096 ≤ start.toNat) (s : State) :
    readLampFaultsAnswer start s = s.refuse .range :=
  if_neg (Nat.not_lt.mpr h)

/-! ### Requests that name a point (R11) -/

theorem State.withNamed_range {s : State} {point : Half} (h : 2048 ≤ point.toNat) (f : Nat → PointRecord → Answer) :
    s.withNamed point f = s.refuse .range :=
  if_neg (Nat.not_lt.mpr h)

theorem toNat_ofFin2048 (p : Fin 2048) : (BitVec.ofNat 16 p.val).toNat = p.val := by
  have := p.isLt
  rw [BitVec.toNat_ofNat]
  omega

theorem State.withNamed_undefined {s : State} {p : Fin 2048} (h : s.point? p.val = none)
    (f : Nat → PointRecord → Answer) : s.withNamed (BitVec.ofNat 16 p.val) f = s.refuse .undefined := by
  unfold State.withNamed
  rw [toNat_ofFin2048, if_pos p.isLt, h]

theorem State.withNamed_defined {s : State} {p : Fin 2048} {r : PointRecord} (h : s.point? p.val = some r)
    (f : Nat → PointRecord → Answer) : s.withNamed (BitVec.ofNat 16 p.val) f = f p.val r := by
  unfold State.withNamed
  rw [toNat_ofFin2048, if_pos p.isLt, h]

/-! ### The refusals -/

theorem setModeOther_serveBody {s : State} (o : s.open = true) {code : Byte} (h : 2 ≤ code.toNat) :
    s.serveBody [0x02, code] = s.sendReply 0x82 .range [] false := by
  have n0 : code ≠ 0#8 := ne_ofNat_of_lt (by omega)
  have n1 : code ≠ 1#8 := ne_ofNat_of_lt (by omega)
  have other : setModeRequest code = setModeOtherRequest := by simp [setModeRequest, n0, n1]
  have served : s.serveBody [0x02, code] = s.serve (setModeRequest code) := rfl
  rw [served, other, State.serve, State.gate_passes (State.testOn_of_open o) rfl]
  exact Answer.reply_refused s .range 0x02 (by decide)

/-- Settles O11: each owner refuses the field, and a refusal is a reply that changes nothing. -/
theorem outOfRangeRequestsAreRefused : Obligations.OutOfRangeRequestsAreRefused := by
  have no : Status.range ≠ .ok := by decide
  refine ⟨fun s a h out => ?_, fun s code o h => setModeOther_serveBody o h, fun s o a b c d e h => ?_⟩
  · exact State.request_refused_always h _ rfl rfl no (readJournalAnswer_range out s)
  have refused {r : Request} (i : Instr) (z : r.sized = true) (x : r.owner s = s.refuse .range) :
      s.request i r = .next (s.sendReply (r.kind + 0x80) .range [] false) := State.request_refused o i z no x
  refine ⟨fun x => ?_, fun x => ?_, fun x => ?_, fun x => ?_, fun x => ?_, fun vs n x => ?_, fun x => ?_,
    fun x => ?_, fun x y => ?_, fun x => ?_, fun x => ?_, fun x => ?_, fun x => ?_, fun ps one most x => ?_,
    fun x => ?_, fun x => ?_, fun x => ⟨?_, ?_, ?_, ?_, ?_, ?_⟩⟩
  · exact refused (.setHornThreshold a) rfl (setHornThresholdAnswer_range x s)
  · exact refused (.setIntensity a) rfl (setIntensityAnswer_range x s)
  · exact refused (.readLoopStatus a) rfl (readLoopStatusAnswer_range x s)
  · exact refused (.setLoopTiming a h) rfl (setLoopTimingAnswer_range x s)
  · exact refused (.configureTile a b c d) rfl (configureTileAnswer_range x s)
  · exact refused (.setJournalSelection vs) (decide_eq_true n) (setJournalSelectionAnswer_range x s)
  · exact refused (.acknowledge a h) rfl (acknowledgeAnswer_range x s)
  · exact refused (.readAnnunciation h a) rfl (readAnnunciationAnswer_range x s)
  · exact refused (.runTest a) rfl (runTestAnswer_range x y s)
  · exact refused (.lampTest a) rfl (lampTestAnswer_range x s)
  · exact refused (.setDeskControl a b) rfl (setDeskControlAnswer_range x s)
  · exact refused (.setCadence a h b c d) rfl (setCadenceAnswer_range x s)
  · exact refused (.setSupervision a b) rfl (setSupervisionAnswer_range x s)
  · exact refused (.setOutstationPeriods a ps) (decide_eq_true ⟨List.length_pos_iff.mpr one, most⟩)
      (setOutstationPeriodsAnswer_range x s)
  · exact refused (.readOutstations a b) rfl (readOutstationsAnswer_range x s)
  · exact refused (.readLampFaults h) rfl (readLampFaultsAnswer_range x s)
  · exact refused (.deletePoint h) rfl (show deletePointAnswer h s = _ from State.withNamed_range x _)
  · exact refused (.readPoint h) rfl (show readPointAnswer h s = _ from State.withNamed_range x _)
  · exact refused (.forcePoint h e) rfl (show forcePointAnswer h e s = _ from State.withNamed_range x _)
  · exact refused (.releasePoint h) rfl (show releasePointAnswer h s = _ from State.withNamed_range x _)
  · exact refused (.inhibitPoint h) rfl (show inhibitPointAnswer h s = _ from State.withNamed_range x _)
  · exact refused (.enablePoint h) rfl (show enablePointAnswer h s = _ from State.withNamed_range x _)

/-- Settles O24: an undefined point has no record to name, and a force is refused when the record rejects the value. -/
theorem undefinedPointsAreRefused : Obligations.UndefinedPointsAreRefused := by
  intro s p v o
  refine ⟨fun undefined => ?_, fun r defined out => ?_⟩
  · have refused {r : Request} (i : Instr) (z : r.sized = true) (x : r.owner s = s.refuse .undefined) :
        s.request i r = .next (s.sendReply (r.kind + 0x80) .undefined [] false) :=
      State.request_refused o i z (by decide) x
    refine ⟨?_, ?_, ?_, ?_, ?_⟩
    · exact refused (.deletePoint _) rfl (show deletePointAnswer _ s = _ from State.withNamed_undefined undefined _)
    · exact refused (.forcePoint _ v) rfl (show forcePointAnswer _ v s = _ from State.withNamed_undefined undefined _)
    · exact refused (.releasePoint _) rfl (show releasePointAnswer _ s = _ from State.withNamed_undefined undefined _)
    · exact refused (.inhibitPoint _) rfl (show inhibitPointAnswer _ s = _ from State.withNamed_undefined undefined _)
    · exact refused (.enablePoint _) rfl (show enablePointAnswer _ s = _ from State.withNamed_undefined undefined _)
  · have rejects : ¬ r.accepts v.toNat = true := by
      rw [PointRecord.accepts_kind]
      rintro ⟨other, band⟩
      rcases out with ⟨k, h⟩ | ⟨k, h⟩
      · have := other k; omega
      · have := band k; omega
    have answer : forcePointAnswer (BitVec.ofNat 16 p.val) v s = s.refuse .range :=
      (State.withNamed_defined defined _).trans (if_neg rejects)
    exact State.request_refused o (.forcePoint _ v) rfl (by decide) answer

end Sys2Proof.Machine

/-!
PROOFS. DEFINE POINT (O21, O22) and DELETE POINT (O23).
-/

namespace Sys2Proof.Machine

/-! ## Whole states after an operation -/

/-- Two states whose fields agree are one state. -/
theorem State.eq_of_fields {s t : State}
    (h : s.pending = t.pending ∧ s.inReset = t.inReset ∧ s.straps = t.straps ∧ s.link = t.link ∧
      s.points = t.points ∧ s.alarm = t.alarm ∧ s.desk = t.desk ∧ s.cadence = t.cadence ∧
      s.composer = t.composer ∧ s.loopA = t.loopA ∧ s.loopB = t.loopB ∧ s.intensity = t.intensity ∧
      s.proving = t.proving ∧ s.supervision = t.supervision ∧ s.journal = t.journal ∧ s.mode = t.mode ∧
      s.freeIndex = t.freeIndex) :
    s = t := by
  cases s
  cases t
  simpa using h

/-- What an offer does to the journal hangs on the journal and the time counter alone. -/
theorem State.offer_journal_congr {s t : State} (j : s.journal = t.journal) (c : s.cadence = t.cadence) (o : Offer) :
    (s.offer o).journal = (t.offer o).journal := by
  unfold State.offer
  rw [j, c]
  split
  · rfl
  · exact j

theorem State.withList_alarm (s : State) (list : List AnnEntry) :
    (s.withList list).alarm =
      { s.alarm with
        list := list
        horn := hornOf s.inReset s.mode.device list
        hornPin := hornSignal (hornOf s.inReset s.mode.device list) s.cadence.fast.phase } := rfl

theorem valueByte_eq (v : Option Nat) : valueByte v = (v.map byteOf).getD 0xFF := by
  cases v <;> rfl

@[simp] theorem byteOf_toNat (v : Byte) : byteOf v.toNat = v :=
  BitVec.ofNat_toNat 8 v |>.trans (BitVec.setWidth_eq v)

theorem toNat_byteOf {n : Nat} (h : n < 256) : (byteOf n).toNat = n := by
  rw [byteOf, BitVec.toNat_ofNat]
  omega

theorem PointRecord.effective_forced {r : PointRecord} {v : Nat} (h : r.forced = some v) : r.effective = some v := by
  simp [PointRecord.effective, h]

theorem PointRecord.effective_eq (r : PointRecord) : r.effective = r.forced.or r.live := by
  cases h : r.forced <;> simp [PointRecord.effective, h]

/-! ## DEFINE POINT (R12, R13, Table 1-5) -/

theorem lampsOf_numbers {fields : List Half} {lamps : List (Fin 4096)} (h : lampsOf fields = some lamps) :
    fields.map BitVec.toNat = lamps.map Fin.val := by
  induction fields generalizing lamps with
  | nil => cases h; rfl
  | cons x rest ih =>
    unfold lampsOf at h
    split at h
    · next n ns hn hns =>
      cases h
      have value : x.toNat = n.val := by
        unfold boundedOf at hn
        split at hn
        · cases hn; rfl
        · cases hn
      simp [value, ih hns]
    · cases h

theorem lampsOf_fields (lamps : List (Fin 4096)) :
    lampsOf (lamps.map fun n => BitVec.ofNat 16 n.val) = some lamps := by
  induction lamps with
  | nil => rfl
  | cons n rest ih =>
    have lt := n.isLt
    have value : (BitVec.ofNat 16 n.val).toNat = n.val := by rw [BitVec.toNat_ofNat]; omega
    simp [lampsOf, ih, boundedOf, value]

theorem PointKind.ofCode_code (k : PointKind) : PointKind.ofCode (byteOf k.code) = some k := by
  cases k <;> rfl

theorem yesNoOf_flagByte (b : Bool) : yesNoOf (flagByte b) = some b := by
  cases b <;> rfl

/-- A kind code that is read is at most 2, and tells BAND by 2. -/
theorem PointKind.ofCode_eq_some {code : Byte} {k : PointKind} (h : PointKind.ofCode code = some k) :
    code.toNat < 3 ∧ (k = .band ↔ code.toNat = 2) := by
  unfold PointKind.ofCode at h
  split at h
  · next e => cases h; simp [e]
  · split at h
    · next e => cases h; simp [e]
    · split at h
      · next e => cases h; simp [e]
      · cases h

theorem PointKind.allows_iff (k : PointKind) (n : Nat) :
    k.allows n = true ↔ (k ≠ .band → n = 1 ∨ n = 2) ∧ (k = .band → 2 ≤ n ∧ n ≤ 8) := by
  cases k <;> simp [PointKind.allows]

/-- A definition with a field out of its range describes no record (checks 3 to 7 of Table 1-5). -/
theorem recordOf_range {d : DefineArgs}
    (h : 3 ≤ d.kind.toNat ∨ 128 ≤ d.outstation.toNat ∨ 16 ≤ d.sect.toNat ∨ 4 ≤ d.priority.toNat ∨
      2 ≤ d.ringBack.toNat ∨ (d.kind.toNat ≤ 1 ∧ 3 ≤ d.lamps.length) ∨ (d.kind.toNat = 2 ∧ d.lamps.length = 1) ∨
      (∃ n ∈ d.lamps, 4096 ≤ n.toNat) ∨ ¬ d.lamps.Nodup) : recordOf d = none := by
  unfold recordOf
  split
  · next kind outstation sect priority ring lamps hk ho hs hp hr hl =>
    refine if_neg fun ⟨allowed, nodup⟩ => ?_
    have numbers := lampsOf_numbers hl
    have length : d.lamps.length = lamps.length := by simpa using congrArg List.length numbers
    obtain ⟨kind_lt, is_band⟩ := PointKind.ofCode_eq_some hk
    obtain ⟨other, band⟩ := (PointKind.allows_iff _ _).mp allowed
    rcases h with h | h | h | h | h | ⟨h, n⟩ | ⟨h, n⟩ | ⟨x, hx, h⟩ | h
    · omega
    · simp [boundedOf_of_le h] at ho
    · simp [boundedOf_of_le h] at hs
    · simp [boundedOf_of_le h] at hp
    · simp [yesNoOf_of_le h] at hr
    · have := other (mt is_band.mp (by omega)); omega
    · have := band (is_band.mpr h); omega
    · have mem : x.toNat ∈ lamps.map Fin.val := numbers ▸ List.mem_map_of_mem hx
      obtain ⟨n, -, e⟩ := List.mem_map.mp mem
      have := n.isLt
      omega
    · have values : (d.lamps.map BitVec.toNat).Nodup := numbers ▸ nodup.map Fin.val_injective
      exact h values.of_map
  · rfl

/-- The arguments of a definition with every field in range. -/
def defineArgs (p : Fin 2048) (kind : PointKind) (o : Fin 128) (k : Fin 16) (priority : Fin 4) (ring : Bool)
    (lamps : List (Fin 4096)) : DefineArgs :=
  ⟨BitVec.ofNat 16 p.val, byteOf kind.code, byteOf o.val, byteOf k.val, byteOf priority.val, flagByte ring,
    byteOf lamps.length, lamps.map fun n => BitVec.ofNat 16 n.val⟩

/-- The record of R13. -/
def newRecord (kind : PointKind) (o : Fin 128) (k : Fin 16) (priority : Fin 4) (ring : Bool)
    (lamps : List (Fin 4096)) : PointRecord :=
  ⟨kind, o, k, priority, ring && kind == .alarm, false, lamps, none, none,
    if kind = .alarm then some .normal else none, none⟩

theorem recordOf_defineArgs (p : Fin 2048) {kind : PointKind} (o : Fin 128) (k : Fin 16) (priority : Fin 4)
    (ring : Bool) {lamps : List (Fin 4096)} (allowed : kind.allows lamps.length = true) (nodup : lamps.Nodup) :
    recordOf (defineArgs p kind o k priority ring lamps) = some (newRecord kind o k priority ring lamps) := by
  have bounded {n : Nat} (x : Fin n) (h : n ≤ 256) : boundedOf n (byteOf x.val).toNat = some x := by
    rw [toNat_byteOf (by omega), boundedOf_of_lt x.isLt]
  simp [recordOf, defineArgs, newRecord, PointKind.ofCode_code, bounded, yesNoOf_flagByte, lampsOf_fields, allowed,
    nodup]

/-- The answer to a definition of an undefined point that describes a record on FREE lamps. -/
theorem definePointAnswer_of_record {d : DefineArgs} {s : State} {r : PointRecord} (range : d.point.toNat < 2048)
    (new : s.point? d.point.toNat = none) (record : recordOf d = some r)
    (free : ∀ n ∈ r.lamps, s.points.owners.get? n.val = none) :
    definePointAnswer d s =
      { state :=
          ({ s.catchUp with points :=
              { table := s.points.table.put d.point.toNat r
                owners := claimLamps s.points.owners d.point.toNat r.lamps } }).offerAdmin d.point.toNat r.sect 1
            none } := by
  have untaken : (r.lamps.any fun n => (s.points.owners.get? n.val).isSome) = false := by
    simpa using free
  rw [State.point?_eq] at new
  simp [definePointAnswer, Nat.not_le.mpr range, new, record, untaken]

/-- Settles O22: the branches of the answer are the checks of Table 1-5 in their order. -/
theorem defineChecksInOrder : Obligations.DefineChecksInOrder := by
  intro s d o one eight count
  have refused {x : Status} (n : x ≠ .ok) (a : definePointAnswer d s = s.refuse x) :
      exec (.definePoint d) s = .next (s.sendReply 0x90 x [] false) :=
    State.request_refused o (.definePoint d) (decide_eq_true ⟨one, eight, count⟩) n a
  refine ⟨fun high => refused (by decide) (if_pos high),
    fun range => ⟨fun defined => ?_, fun new => ⟨fun out => ?_, ?_⟩⟩⟩
  · have isSome : (s.point? d.point.toNat).isSome = true := Option.isSome_iff_ne_none.mpr defined
    exact refused (by decide) ((if_neg (Nat.not_le.mpr range)).trans (if_pos isSome))
  · refine refused (by decide) ?_
    simp only [definePointAnswer, Nat.not_le.mpr range, new, recordOf_range out]
    rfl
  · rintro r record ⟨n, hn, owned⟩
    have taken : (r.lamps.any fun n => (s.points.owners.get? n.val).isSome) = true :=
      List.any_eq_true.mpr ⟨n, hn, Option.isSome_iff_ne_none.mpr owned⟩
    refine refused (by decide) ?_
    simp only [definePointAnswer, Nat.not_le.mpr range, new, record, taken]
    rfl

/-- Settles O21: the record is put, its lamps are claimed, the entry is offered, and an offer changes the journal
alone. -/
theorem defineMakesTheRecord : Obligations.DefineMakesTheRecord := by
  intro s p kind o k priority ring lamps isOpen new allowed nodup free
  have point : (defineArgs p kind o k priority ring lamps).point.toNat = p.val := toNat_ofFin2048 p
  have answer := definePointAnswer_of_record (s := s) (point ▸ p.isLt) (point ▸ new)
    (recordOf_defineArgs p o k priority ring allowed nodup) free
  rw [point] at answer
  have count : 1 ≤ lamps.length ∧ lamps.length ≤ 8 := by
    obtain ⟨other, band⟩ := (PointKind.allows_iff _ _).mp allowed
    by_cases b : kind = .band
    · have := band b; omega
    · have := other b; omega
  have sized : (definePointRequest (defineArgs p kind o k priority ring lamps)).sized = true := by
    have value : (byteOf lamps.length).toNat = lamps.length := toNat_byteOf (by omega)
    simp [definePointRequest, defineArgs, value, count]
  have served := State.request_taken isOpen (.definePoint (defineArgs p kind o k priority ring lamps)) sized
    (show (0x10 : Byte) ≠ resetKind by decide) answer
  refine ⟨_, served, by simp [newRecord], fun q ne => by simp [Ne.symm ne], fun n hn => ?_, fun lamp ne => ?_,
    State.offer_journal_congr (by simp) (by simp) _, State.eq_of_fields (by simp)⟩
  · have own : ∃ m ∈ lamps, m.val = n.val := ⟨n, hn, rfl⟩
    simp [get?_claimLamps, newRecord, own]
  · have other : ¬ ∃ n ∈ lamps, n.val = lamp := by simpa using ne
    simp [get?_claimLamps, newRecord, other]

/-! ## DELETE POINT (R14) -/

/-- Settles O23: the entry is withdrawn for an ALARM point alone, the record is erased, its lamps are freed, and the
entry of action 2 is offered. -/
theorem deleteUndefinesThePoint : Obligations.DeleteUndefinesThePoint := by
  intro s p r o defined
  have answer : deletePointAnswer (BitVec.ofNat 16 p.val) s =
      { state :=
          ({ (if r.kind = PointKind.alarm then s.catchUp.withdrawEntry p.val else s.catchUp : State) with
              points :=
                { table := s.points.table.erase p.val
                  owners := freeLamps s.points.owners r.lamps } }).offerAdmin p.val r.sect 2 none } :=
    State.withNamed_defined defined _
  have served := State.request_taken (r := deletePointRequest _) o (.deletePoint (BitVec.ofNat 16 p.val)) rfl
    (show (0x11 : Byte) ≠ resetKind by decide) answer
  refine ⟨_, served, by simp, fun q ne => by simp [Ne.symm ne], fun n hn => ?_, fun lamp ne => ?_, fun k => ?_,
    fun k => ?_, State.offer_journal_congr ?_ ?_ _, State.eq_of_fields ?_⟩
  · have own : ∃ m ∈ r.lamps, m.val = n.val := ⟨n, hn, rfl⟩
    simp [get?_freeLamps, own]
  · have other : ¬ ∃ n ∈ r.lamps, n.val = lamp := by simpa using ne
    simp [get?_freeLamps, other]
  · simp [k, State.withdrawEntry, State.withList_alarm, removePoint]
  · simp [k]
  all_goals by_cases k : r.kind = .alarm <;> simp [k]

end Sys2Proof.Machine

/-!
PROOFS. Force, release, inhibit, enable (O25, O26), the reads of a point and of the list (O16), the hand-on of a change
(O28).
-/

namespace Sys2Proof.Machine

/-! ## FORCE POINT and RELEASE POINT (R17, R18) -/

/-- An offer of an ADMIN entry, its value as a byte. -/
theorem State.offerAdmin_eq (s : State) (p : Nat) (k : Fin 16) (action : Byte) (v : Option Nat) :
    s.offerAdmin p k action v = s.offer ⟨.admin, .host, .point p, action, (v.map byteOf).getD 0xFF, [], some k⟩ := by
  rw [← valueByte_eq]
  rfl

/-- Settles O25: the three branches of the two answers. -/
theorem forceAndReleaseSetTheForcedValue : Obligations.ForceAndReleaseSetTheForcedValue := by
  intro s p r o defined
  refine ⟨fun v other band => ?_, fun v forced => ?_, fun unforced => ?_⟩
  · have accepted : r.accepts v.toNat = true := (r.accepts_kind _).mpr ⟨other, band⟩
    have answer : forcePointAnswer (BitVec.ofNat 16 p.val) v s =
        { state := ((s.catchUp.withPoint p.val { r with forced := some v.toNat }).offer
            ⟨.admin, .host, .point p.val, 3, v, [], some r.sect⟩).settle p.val r.effective } := by
      refine (State.withNamed_defined defined _).trans ((if_pos accepted).trans ?_)
      simp [State.offerAdmin_eq]
    exact State.request_taken (r := forcePointRequest _ v) o (.forcePoint _ v) rfl
      (show (0x14 : Byte) ≠ resetKind by decide) answer
  · have answer : releasePointAnswer (BitVec.ofNat 16 p.val) s =
        { state := ((s.catchUp.withPoint p.val { r with forced := none }).offer
            ⟨.admin, .host, .point p.val, 4, (r.live.map byteOf).getD 0xFF, [], some r.sect⟩).settle p.val
              (some v) } := by
      refine (State.withNamed_defined defined _).trans ((if_pos (by simp [forced])).trans ?_)
      rw [State.offerAdmin_eq, PointRecord.effective_forced forced]
    exact State.request_taken (r := releasePointRequest _) o (.releasePoint _) rfl
      (show (0x15 : Byte) ≠ resetKind by decide) answer
  · have answer : releasePointAnswer (BitVec.ofNat 16 p.val) s = { state := s } :=
      (State.withNamed_defined defined _).trans (if_neg (by simp [unforced]))
    exact State.request_taken (r := releasePointRequest _) o (.releasePoint _) rfl
      (show (0x15 : Byte) ≠ resetKind by decide) answer

/-! ## INHIBIT POINT and ENABLE POINT (R19, R20) -/

/-- The new arrival of an enabled point, its parts written out (R30). -/
theorem State.enableArrival_eq (s : State) (p : Nat) (r : PointRecord) :
    s.enableArrival p r =
      ((s.withPoint p { r with alarm := some .alarmUnack }).withList
        (insertArrival ⟨p, r.priority, r.sect, s.cadence.time, r.priority ≤ s.alarm.threshold⟩ s.alarm.list)).offer
          ⟨.alarm, .host, .point p, 0, 1, [], some r.sect⟩ := by
  simp [State.enableArrival, State.arrive, AlarmUnit.sounds, State.offerAlarm, AlarmState.code]

/-- Settles O26: the branches of the two answers, by the flag, the kind and the value. -/
theorem inhibitAndEnableMoveTheFlag : Obligations.InhibitAndEnableMoveTheFlag := by
  intro s p r o defined
  have inhibits {u : State} (answer : inhibitPointAnswer (BitVec.ofNat 16 p.val) s = { state := u }) :
      exec (.inhibitPoint (BitVec.ofNat 16 p.val)) s = .next (u.sendReply 0x96 .ok [] false) :=
    State.request_taken (r := inhibitPointRequest _) o (.inhibitPoint _) rfl
      (show (0x16 : Byte) ≠ resetKind by decide) answer
  have enables {u : State} (answer : enablePointAnswer (BitVec.ofNat 16 p.val) s = { state := u }) :
      exec (.enablePoint (BitVec.ofNat 16 p.val)) s = .next (u.sendReply 0x97 .ok [] false) :=
    State.request_taken (r := enablePointRequest _) o (.enablePoint _) rfl
      (show (0x17 : Byte) ≠ resetKind by decide) answer
  refine ⟨fun i => inhibits ?_, fun i => enables ?_, fun i k => inhibits ?_, fun i k => inhibits ?_,
    fun i calm => enables ?_, fun i k active => enables ?_⟩
  · exact (State.withNamed_defined defined _).trans (if_pos i)
  · exact (State.withNamed_defined defined _).trans (if_neg (by simp [i]))
  · refine (State.withNamed_defined defined _).trans ((if_neg (by simp [i])).trans ?_)
    simp [k, State.offerAdmin_eq, State.withdrawEntry, removePoint]
  · refine (State.withNamed_defined defined _).trans ((if_neg (by simp [i])).trans ?_)
    simp [k, State.offerAdmin_eq]
  · have stays : ¬ (r.kind = .alarm ∧ r.effective = some 1) := fun ⟨k, active⟩ => calm.elim (· k) (· active)
    refine (State.withNamed_defined defined _).trans ((if_pos i).trans ?_)
    simp [stays, State.offerAdmin_eq]
  · refine (State.withNamed_defined defined _).trans ((if_pos i).trans ?_)
    simp [k, active, State.offerAdmin_eq, State.enableArrival_eq, byteOf]

/-! ## READ POINT and READ ANNUNCIATION (R21, R46) -/

theorem presentByte_eq (v : Option Nat) : presentByte v = (v.map byteOf).getD 0 := by
  cases v <;> rfl

/-- Seven flags packed into a byte are read back bit by bit. -/
theorem getLsbD_flags (b0 b1 b2 b3 b4 b5 b6 : Bool) :
    let flags := byteOf
      ((if b0 then 1 else 0) + (if b1 then 2 else 0) + (if b2 then 4 else 0) + (if b3 then 8 else 0) +
        (if b4 then 16 else 0) + (if b5 then 32 else 0) + (if b6 then 64 else 0))
    flags.getLsbD 0 = b0 ∧ flags.getLsbD 1 = b1 ∧ flags.getLsbD 2 = b2 ∧ flags.getLsbD 3 = b3 ∧
      flags.getLsbD 4 = b4 ∧ flags.getLsbD 5 = b5 ∧ flags.getLsbD 6 = b6 ∧ flags.getLsbD 7 = false := by
  revert b0 b1 b2 b3 b4 b5 b6
  decide

/-- Settles O16: the answers leave the state, and the flags byte is read back bit by bit. -/
theorem pointAndListReadsReport : Obligations.PointAndListReadsReport := by
  intro s o
  refine ⟨fun p undefined => ?_, fun p r defined => ?_, fun start count one most => ?_⟩
  · exact State.request_refused (r := readPointRequest _) o (.readPoint _) rfl (by decide)
      (show readPointAnswer _ s = _ from State.withNamed_undefined undefined _)
  · obtain ⟨b0, b1, b2, b3, b4, b5, b6, b7⟩ := getLsbD_flags r.ringBack r.inhibited r.live.isSome r.forced.isSome
      r.lastChange.isSome (s.alarm.inList p.val) (lampFault s.proving r)
    refine ⟨s.pointFlags p.val r, b0, b1, b2, b3, b4, b5, b6, b7, ?_⟩
    rw [← presentByte_eq, ← presentByte_eq, ← valueByte_eq, ← PointRecord.effective_eq]
    exact State.request_taken (r := readPointRequest _) o (.readPoint _) rfl
      (show (0x12 : Byte) ≠ resetKind by decide)
      (show readPointAnswer _ s = _ from State.withNamed_defined defined _)
  · have range : (BitVec.ofNat 16 start.val).toNat < 2048 ∧ 1 ≤ count.toNat ∧ count.toNat ≤ 128 :=
      ⟨(toNat_ofFin2048 start).symm ▸ start.isLt, one, most⟩
    have answer : readAnnunciationAnswer (BitVec.ofNat 16 start.val) count s =
        { state := s
          payload :=
            halfBytes s.alarm.list.length ++ [byteOf (min count.toNat (s.alarm.list.length - start.val))] ++
              ((s.alarm.list.drop start.val).take count.toNat).flatMap s.annEntryBytes } := by
      refine (if_pos range).trans ?_
      rw [toNat_ofFin2048]
      simp only [List.length_take, List.length_drop]
    exact State.request_taken (r := readAnnunciationRequest _ count) o (.readAnnunciation _ count) rfl
      (show (0x22 : Byte) ≠ resetKind by decide) answer

/-! ## Updates and the hand-on of a change (R3, R7, R8, R15) -/

theorem State.applies_eq_none_of_rejects {s : State} {u : Update} {r : PointRecord}
    (defined : s.point? u.point.toNat = some r) (rejects : ¬ r.accepts u.value.toNat = true) : s.applies u = none := by
  rw [Option.eq_none_iff_forall_ne_some]
  intro x hx
  obtain ⟨-, hx, accepts⟩ := State.applies_eq_some.mp hx
  obtain rfl : r = x := Option.some.inj (defined.symm.trans hx)
  exact rejects accepts

/-- An update of a point above 2047 or of an undefined point is skipped. -/
theorem State.applies_eq_none_of_undefined {s : State} {u : Update}
    (h : 2048 ≤ u.point.toNat ∨ s.point? u.point.toNat = none) : s.applies u = none := by
  rw [Option.eq_none_iff_forall_ne_some]
  intro x hx
  obtain ⟨range, defined, -⟩ := State.applies_eq_some.mp hx
  rcases h with h | h
  · omega
  · rw [h] at defined; cases defined

theorem State.settle_same {s : State} {p : Nat} {r : PointRecord} {old : Option Nat} (defined : s.point? p = some r)
    (same : r.effective = old) : s.settle p old = s := by
  simp only [State.settle, defined]
  exact if_pos same

theorem State.settle_changed {s : State} {p : Nat} {r : PointRecord} {old : Option Nat} (defined : s.point? p = some r)
    (changed : r.effective ≠ old) :
    s.settle p old =
      (s.withPoint p { r with lastChange := some s.cadence.time }).handOn p { r with lastChange := some s.cadence.time }
        old := by
  simp only [State.settle, defined]
  exact if_neg changed

theorem State.offerChange_eq (s : State) (p : Nat) (k : Fin 16) (old new : Option Nat) :
    s.offerChange p k old new =
      s.offer ⟨.change, .host, .point p, (old.map byteOf).getD 0xFF, (new.map byteOf).getD 0xFF, [], some k⟩ := by
  rw [← valueByte_eq, ← valueByte_eq]
  rfl

theorem State.handOn_other (s : State) (p : Nat) {r : PointRecord} (k : r.kind ≠ .alarm) (old : Option Nat) :
    s.handOn p r old = s.offerChange p r.sect old r.effective := by
  unfold State.handOn
  split
  · next alarm => exact absurd alarm k
  · rfl
  · rfl

theorem State.handOn_quiet (s : State) (p : Nat) {r : PointRecord} (k : r.kind = .alarm)
    (quiet : r.inhibited = true ∨ r.effective = none) (old : Option Nat) : s.handOn p r old = s := by
  rcases quiet with i | e
  · simp [State.handOn, k, i]
  · simp [State.handOn, k, e]

theorem State.handOn_alarm (s : State) (p : Nat) {r : PointRecord} {v : Nat} (k : r.kind = .alarm)
    (i : r.inhibited = false) (e : r.effective = some v) (old : Option Nat) :
    s.handOn p r old = s.valueChange p r (v = 1) := by
  simp [State.handOn, k, i, e]

/-- Settles O28: what `applies` asks for, and the cases of `settle` and of the hand-on. -/
theorem changesAreHandedOn : Obligations.ChangesAreHandedOn := by
  refine ⟨fun s u => ⟨State.applies_eq_none_of_undefined, fun r range defined => ⟨fun out => ?_, fun other band => ?_⟩⟩,
    fun s p r old defined => ⟨State.settle_same defined, fun changed => ?_⟩⟩
  · refine State.applies_eq_none_of_rejects defined fun accepts => ?_
    obtain ⟨other, band⟩ := (r.accepts_kind _).mp accepts
    rcases out with ⟨k, h⟩ | ⟨k, h⟩
    · have := other k; omega
    · have := band k; omega
  · exact ⟨State.applies_eq_some.mpr ⟨range, defined, (r.accepts_kind _).mpr ⟨other, band⟩⟩, rfl⟩
  · intro q
    have settled : s.settle p old = (s.withPoint p q).handOn p q old := State.settle_changed defined changed
    refine ⟨fun k => ?_, fun k quiet => ?_, fun v k i e => ?_⟩
    · exact settled.trans
        ((State.handOn_other (r := q) _ p k old).trans (State.offerChange_eq _ p q.sect old q.effective))
    · exact settled.trans (State.handOn_quiet (r := q) _ p k quiet old)
    · exact settled.trans (State.handOn_alarm (r := q) _ p k i e old)

end Sys2Proof.Machine

/-!
PROOFS. UPDATE POINTS takes its updates in order (O27).
-/

namespace Sys2Proof.Machine

/-! ## UPDATE POINTS (R15, R16) -/

/-- The state an update leaves, applied or skipped. -/
def State.afterUpdate (s : State) (u : Update) : State :=
  match s.applies u with
  | some r => s.applyUpdate u r
  | none => s

/-- Whether each update of a list is applied, taken in order from a state. -/
def updateFlags : List Update → State → List Bool
  | [], _ => []
  | u :: rest, s => (s.applies u).isSome :: updateFlags rest (s.afterUpdate u)

@[simp] theorem updateFlags_length (us : List Update) : ∀ s : State, (updateFlags us s).length = us.length := by
  induction us with
  | nil => exact fun _ => rfl
  | cons u rest ih => intro s; simp [updateFlags, ih]

/-- A batch in closed form: the last state, the number applied, and the first position skipped. -/
theorem updatesFrom_eq (us : List Update) : ∀ (position : Nat) (b : Batch),
    updatesFrom position us b =
      ⟨us.foldl State.afterUpdate b.state, b.applied + (updateFlags us b.state).count true,
        b.skipped.or (((updateFlags us b.state).findIdx? (!·)).map (position + ·))⟩ := by
  induction us with
  | nil => intro position b; simp [updatesFrom, updateFlags]
  | cons u rest ih =>
    intro position b
    rw [updatesFrom, ih]
    cases e : b.state.applies u with
    | some r =>
      have count : b.applied + 1 + (updateFlags rest (b.state.applyUpdate u r)).count true =
          b.applied + ((updateFlags rest (b.state.applyUpdate u r)).count true + 1) := by omega
      have place : ∀ i, position + 1 + i = position + (i + 1) := by omega
      simp [Batch.apply, updateFlags, State.afterUpdate, e, List.findIdx?_cons, count, place, Function.comp_def]
    | none =>
      cases k : b.skipped <;> simp [Batch.skip, updateFlags, State.afterUpdate, e, k, List.findIdx?_cons]

/-- The flag of a place, read from the states that the updates pass through. -/
theorem updateFlags_getElem? (us : List Update) : ∀ (s : State) (i : Nat),
    (updateFlags us s)[i]?.getD false =
      ((us.scanl State.afterUpdate s)[i]?.bind fun t => us[i]?.bind fun u => t.applies u).isSome := by
  induction us with
  | nil => intro s i; cases i <;> simp [updateFlags]
  | cons u rest ih =>
    intro s i
    rw [List.scanl_cons]
    cases i with
    | zero => simp [updateFlags]
    | succ i => simpa [updateFlags] using ih (s.afterUpdate u) i

/-- What R16 reports of a list of flags: how many are set, and where the first is clear. -/
theorem flags_report {flags : List Bool} {n : Nat} (length : flags.length = n) (applied : Nat → Bool)
    (h : ∀ i, flags[i]?.getD false = applied i) :
    flags.count true = ((List.range n).filter applied).length ∧
      ((∀ i, i < n → applied i = true) → flags.findIdx? (!·) = none) ∧
      ∀ i, i < n → applied i = false → (∀ j, j < i → applied j = true) → flags.findIdx? (!·) = some i := by
  subst length
  have get (i : Nat) (hi : i < flags.length) : flags[i] = applied i := by
    simpa [List.getElem?_eq_getElem hi] using h i
  have mapped : flags = (List.range flags.length).map applied :=
    List.ext_getElem (by simp) fun i hi _ => by simp [get i hi]
  refine ⟨?_, fun all => ?_, fun i hi clear before => ?_⟩
  · calc flags.count true = ((List.range flags.length).map applied).count true := congrArg _ mapped
      _ = ((List.range flags.length).filter applied).length := by
        rw [List.count_eq_countP, List.countP_map, ← List.countP_eq_length_filter]
        congr 1
        funext i
        simp
  · rw [List.findIdx?_eq_none_iff]
    intro x hx
    obtain ⟨i, hi, rfl⟩ := List.getElem_of_mem hx
    simp [get i hi, all i hi]
  · refine List.findIdx?_eq_some_iff_getElem.mpr ⟨hi, by simp [get i hi, clear], fun j hj => ?_⟩
    simp [get j (hj.trans hi), before j hj]

/-- Settles O27: the batch in closed form gives the reply. -/
theorem updatesAreTakenInOrder : Obligations.UpdatesAreTakenInOrder := by
  intro s us o one most
  have taken : updatesFrom 0 us ⟨s, 0, none⟩ =
      ⟨us.foldl State.afterUpdate s, (updateFlags us s).count true, (updateFlags us s).findIdx? (!·)⟩ := by
    simp [updatesFrom_eq]
  have answer : updatePointsAnswer us s =
      { state := us.foldl State.afterUpdate s
        payload := [byteOf ((updateFlags us s).count true), valueByte ((updateFlags us s).findIdx? (!·))] } := by
    rw [updatePointsAnswer, taken]
    rfl
  have served := State.request_taken (r := updatePointsRequest us) o (.updatePoints us)
    (decide_eq_true ⟨one, most⟩) (show (0x13 : Byte) ≠ resetKind by decide) answer
  intro states applied
  obtain ⟨count, none_skipped, first_skipped⟩ :=
    flags_report (updateFlags_length us s) applied (updateFlags_getElem? us s)
  refine ⟨_, _, _, List.getLast?_scanl, served, count, fun all => ?_, fun i hi clear before => ?_⟩
  · rw [none_skipped all]
    rfl
  · rw [first_skipped i hi clear before]
    rfl

end Sys2Proof.Machine

/-!
PROOFS. HORN: the rows of Table 2-8 (O33), and which operations of the points, the list and the cadence keep it as the
table derives it (O58).
-/

namespace Sys2Proof.Machine

/-! ## The rows of Table 2-8 (R44) -/

theorem State.deriveHorn_hornDerived (s : State) : s.deriveHorn.HornDerived := ⟨rfl, rfl⟩

theorem State.withList_hornDerived (s : State) (list : List AnnEntry) : (s.withList list).HornDerived := ⟨rfl, rfl⟩

theorem hornOf_inReset (device : DeviceMode) (list : List AnnEntry) : hornOf true device list = .quiet := by
  simp [hornOf]

theorem hornOf_offline (inReset : Bool) (list : List AnnEntry) : hornOf inReset .offline list = .quiet := by
  simp [hornOf]

theorem hornOf_steady {list : List AnnEntry} (h : ∃ e ∈ list, e.mark = true ∧ e.priority = 0) :
    hornOf false .online list = .steady := by
  have first : (list.any fun e => e.mark && e.priority == 0) = true := by simpa using h
  simp [hornOf, first]

theorem hornOf_pulsed {list : List AnnEntry} (none_first : ∀ e ∈ list, e.mark = true → e.priority ≠ 0)
    (marked : ∃ e ∈ list, e.mark = true) : hornOf false .online list = .pulsed := by
  have first : (list.any fun e => e.mark && e.priority == 0) = false := by simpa using none_first
  have some_mark : (list.any fun e => e.mark) = true := by simpa using marked
  simp [hornOf, first, some_mark]

/-- Without a sounding mark HORN is QUIET, whatever the mode. -/
theorem hornOf_unmarked (inReset : Bool) (device : DeviceMode) {list : List AnnEntry}
    (h : ∀ e ∈ list, e.mark = false) : hornOf inReset device list = .quiet := by
  have first : (list.any fun e => e.mark && e.priority == 0) = false := by
    simpa using fun e he mark => absurd mark (by simp [h e he])
  have marks : (list.any fun e => e.mark) = false := by simpa using h
  simp [hornOf, first, marks]

theorem hornSignal_pulsed (phase : Phase) : hornSignal .pulsed phase = true ↔ phase = .lit := by
  cases phase <;> simp [hornSignal]

/-- Settles O33: one lemma for each row of Table 2-8, and the list's replacement derives HORN again. -/
theorem hornFollowsItsTable : Obligations.HornFollowsItsTable := by
  refine ⟨hornOf_inReset, fun list => ⟨hornOf_offline false list, hornOf_steady, hornOf_pulsed,
    hornOf_unmarked false .online⟩, fun phase => ⟨rfl, rfl, hornSignal_pulsed phase⟩, fun s list => ?_⟩
  exact ⟨s.withList_hornDerived list, rfl, rfl, rfl⟩

/-! ## What keeps HORN as derived -/

/-- What HORN is derived from, with HORN itself: the list, the HORN state and signal, the reset pin, the device mode,
the FAST phase. -/
def State.hornView (s : State) : List AnnEntry × Horn × Bool × Bool × DeviceMode × Phase :=
  ⟨s.alarm.list, s.alarm.horn, s.alarm.hornPin, s.inReset, s.mode.device, s.cadence.fast.phase⟩

/-- If HORN stands as derived in one state, it does in the other. -/
def State.KeepsHorn (s t : State) : Prop :=
  s.HornDerived → t.HornDerived

theorem State.KeepsHorn.refl (s : State) : s.KeepsHorn s := id

theorem State.KeepsHorn.trans {s t u : State} (h : s.KeepsHorn t) (k : t.KeepsHorn u) : s.KeepsHorn u := k ∘ h

theorem State.KeepsHorn.of_view {s t : State} (h : t.hornView = s.hornView) : s.KeepsHorn t := by
  simp only [State.hornView, Prod.mk.injEq] at h
  obtain ⟨list, horn, pin, inReset, device, phase⟩ := h
  simp only [State.KeepsHorn, State.HornDerived, list, horn, pin, inReset, device, phase]
  exact id

theorem State.KeepsHorn.of_derived {s t : State} (h : t.HornDerived) : s.KeepsHorn t := fun _ => h

/-! ### The journal, the points and the list -/

@[simp] theorem State.offer_hornView (s : State) (o : Offer) : (s.offer o).hornView = s.hornView := by
  simp [State.hornView]

/-- HORN derived, then an entry offered. -/
theorem State.KeepsHorn.offer {s t : State} (h : s.KeepsHorn t) (o : Offer) : s.KeepsHorn (t.offer o) :=
  h.trans (.of_view (t.offer_hornView o))

theorem State.relist_keepsHorn (s : State) (p : Nat) (r : PointRecord) (old new : AlarmState) :
    s.KeepsHorn (s.relist p r old new) := by
  unfold State.relist
  split
  · exact .of_derived (State.withList_hornDerived _ _)
  · exact .of_derived (State.withList_hornDerived _ _)
  · split
    · exact .of_derived (State.withList_hornDerived _ _)
    · exact .refl s
  · exact .refl s

theorem State.valueChange_keepsHorn (s : State) (p : Nat) (r : PointRecord) (active : Bool) :
    s.KeepsHorn (s.valueChange p r active) := by
  unfold State.valueChange
  dsimp only
  split
  · exact .refl s
  · next new _ =>
    have written : s.KeepsHorn (s.withPoint p { r with alarm := some new }) := .of_view rfl
    exact (written.trans (State.relist_keepsHorn _ _ _ _ _)).offer _

theorem State.handOn_keepsHorn (s : State) (p : Nat) (r : PointRecord) (old : Option Nat) :
    s.KeepsHorn (s.handOn p r old) := by
  unfold State.handOn
  split
  · split
    · exact .refl s
    · split
      · exact .refl s
      · exact State.valueChange_keepsHorn _ _ _ _
  · exact (State.KeepsHorn.refl s).offer _
  · exact (State.KeepsHorn.refl s).offer _

theorem State.settle_keepsHorn (s : State) (p : Nat) (old : Option Nat) : s.KeepsHorn (s.settle p old) := by
  unfold State.settle
  split
  · exact .refl s
  · next r _ =>
    split
    · exact .refl s
    · have stamped : s.KeepsHorn (s.withPoint p { r with lastChange := some s.cadence.time }) := .of_view rfl
      exact stamped.trans (State.handOn_keepsHorn _ _ _ _)

theorem State.applyUpdate_keepsHorn (s : State) (u : Update) (r : PointRecord) : s.KeepsHorn (s.applyUpdate u r) := by
  have written : s.KeepsHorn
      ((s.catchUp.withPoint u.point.toNat { r with live := some u.value.toNat }).refresh r.outstation) :=
    .of_view (by simp [State.hornView])
  exact written.trans (State.settle_keepsHorn _ _ _)

theorem updatesFrom_keepsHorn (us : List Update) :
    ∀ (position : Nat) (b : Batch), b.state.KeepsHorn (updatesFrom position us b).state := by
  induction us with
  | nil => exact fun _ b => .refl b.state
  | cons u rest ih =>
    intro position b
    refine State.KeepsHorn.trans ?_ (ih (position + 1) _)
    split
    · exact State.applyUpdate_keepsHorn _ _ _
    · exact .refl b.state

theorem State.withNamed_keepsHorn {s : State} {point : Half} {f : Nat → PointRecord → Answer}
    (h : ∀ r, s.KeepsHorn (f point.toNat r).state) : s.KeepsHorn (s.withNamed point f).state := by
  unfold State.withNamed
  split
  · split
    · exact .refl s
    · exact h _
  · exact .refl s

theorem definePointAnswer_keepsHorn (d : DefineArgs) (s : State) : s.KeepsHorn (definePointAnswer d s).state := by
  unfold definePointAnswer
  dsimp only
  (repeat' split) <;> exact .of_view (by simp [State.hornView, State.refuse])

theorem deletePointAnswer_keepsHorn (point : Half) (s : State) :
    s.KeepsHorn (deletePointAnswer point s).state := by
  refine State.withNamed_keepsHorn fun r => State.KeepsHorn.offer ?_ _
  split
  · exact .of_derived ⟨rfl, rfl⟩
  · exact .of_view (by simp [State.hornView])

theorem forcePointAnswer_keepsHorn (point : Half) (v : Byte) (s : State) :
    s.KeepsHorn (forcePointAnswer point v s).state := by
  refine State.withNamed_keepsHorn fun r => ?_
  split
  · exact .trans (.of_view (by simp [State.hornView])) (State.settle_keepsHorn _ _ _)
  · exact .refl s

theorem releasePointAnswer_keepsHorn (point : Half) (s : State) :
    s.KeepsHorn (releasePointAnswer point s).state := by
  refine State.withNamed_keepsHorn fun r => ?_
  split
  · exact .trans (.of_view (by simp [State.hornView])) (State.settle_keepsHorn _ _ _)
  · exact .refl s

theorem inhibitPointAnswer_keepsHorn (point : Half) (s : State) :
    s.KeepsHorn (inhibitPointAnswer point s).state := by
  refine State.withNamed_keepsHorn fun r => ?_
  split
  · exact .refl s
  · refine State.KeepsHorn.offer ?_ _
    split
    · exact .of_derived (State.withList_hornDerived _ _)
    · exact .of_view (by simp [State.hornView])

theorem enablePointAnswer_keepsHorn (point : Half) (s : State) : s.KeepsHorn (enablePointAnswer point s).state := by
  refine State.withNamed_keepsHorn fun r => ?_
  split
  · dsimp only
    split
    · exact State.KeepsHorn.offer (.of_derived (State.withList_hornDerived _ _)) _
    · exact .of_view (by simp [State.hornView])
  · exact .refl s

/-! ### Acknowledgement and SILENCE -/

theorem State.acknowledgeEntry_keepsHorn (source : Source) (s : State) (e : AnnEntry) :
    s.KeepsHorn (s.acknowledgeEntry source e) := by
  unfold State.acknowledgeEntry
  split
  · exact .refl s
  · dsimp only
    split
    · exact .refl s
    · exact State.KeepsHorn.offer (.of_derived (State.withList_hornDerived _ _)) _

theorem State.acknowledgeFold_keepsHorn (source : Source) (entries : List AnnEntry) :
    ∀ s : State, s.KeepsHorn (entries.foldl (State.acknowledgeEntry source) s) := by
  induction entries with
  | nil => exact .refl
  | cons e rest ih => exact fun s => (State.acknowledgeEntry_keepsHorn source s e).trans (ih _)

theorem State.acknowledgeEntries_keepsHorn (source : Source) (s : State) (entries : List AnnEntry) :
    s.KeepsHorn (s.acknowledgeEntries source entries) := by
  cases entries with
  | nil => exact .refl s
  | cons e rest =>
    exact .trans (.of_view (by simp [State.hornView])) (State.acknowledgeFold_keepsHorn source (e :: rest) _)

/-- An ACKNOWLEDGE is refused, or acknowledges some entries. -/
theorem acknowledgeAnswer_state (scope : Byte) (argument : Half) (s : State) :
    (acknowledgeAnswer scope argument s).state = s ∨
      ∃ entries, (acknowledgeAnswer scope argument s).state = s.acknowledgeEntries .host entries := by
  unfold acknowledgeAnswer
  dsimp only
  split
  · split
    · split
      · exact .inl rfl
      · split
        · split
          · exact .inl rfl
          · exact .inr ⟨[_], rfl⟩
        · exact .inl rfl
    · exact .inl rfl
  · split
    · split
      · exact .inl rfl
      · exact .inr ⟨_, rfl⟩
    · split
      · exact .inr ⟨_, rfl⟩
      · split
        · exact .inr ⟨_, rfl⟩
        · exact .inl rfl

theorem acknowledgeAnswer_keepsHorn (scope : Byte) (argument : Half) (s : State) :
    s.KeepsHorn (acknowledgeAnswer scope argument s).state := by
  rcases acknowledgeAnswer_state scope argument s with same | ⟨entries, taken⟩
  · rw [same]
    exact .refl s
  · rw [taken]
    exact s.acknowledgeEntries_keepsHorn .host entries

theorem State.silenceHorn_keepsHorn (s : State) (source : Source) : s.KeepsHorn (s.silenceHorn source) :=
  State.KeepsHorn.offer (.of_derived (State.withList_hornDerived _ _)) _

/-! ### Reads leave the state -/

theorem readAnnunciationAnswer_state (start : Half) (count : Byte) (s : State) :
    (readAnnunciationAnswer start count s).state = s := by
  unfold readAnnunciationAnswer
  split <;> rfl

theorem readLoopStatusAnswer_state (loop : Byte) (s : State) :
    (readLoopStatusAnswer loop s).state = s := by
  unfold readLoopStatusAnswer
  split <;> rfl

theorem readLampFaultsAnswer_state (start : Half) (s : State) :
    (readLampFaultsAnswer start s).state = s := by
  unfold readLampFaultsAnswer
  split <;> rfl

theorem readOutstationsAnswer_state (first count : Byte) (s : State) :
    (readOutstationsAnswer first count s).state = s := by
  unfold readOutstationsAnswer
  split <;> rfl

/-! ### Cadence: HORN follows the FAST phase (R73) -/

theorem State.followPhase_keepsHorn (s : State) (g : Generator) (x : CadenceGenerator) :
    s.KeepsHorn ((s.withGenerator g x).followPhase g) := by
  cases g with
  | fast => exact .of_derived (State.deriveHorn_hornDerived _)
  | slow => exact .of_view rfl
  | wink => exact .of_view rfl

theorem State.togglePhase_keepsHorn (g : Generator) (s : State) : s.KeepsHorn (s.togglePhase g) := by
  unfold State.togglePhase
  split
  · exact s.followPhase_keepsHorn g _
  · exact .refl s

theorem setCadenceAnswer_keepsHorn (g : Byte) (prescale : Half) (lit dark run : Byte) (s : State) :
    s.KeepsHorn (setCadenceAnswer g prescale lit dark run s).state := by
  unfold setCadenceAnswer
  split
  · exact .refl s
  · next x _ =>
    split
    · exact s.followPhase_keepsHorn x _
    · exact .refl s

theorem State.expirePrescale_hornView (g : Generator) (s : State) : (s.expirePrescale g).hornView = s.hornView := by
  unfold State.expirePrescale
  split
  · cases g <;> rfl
  · rfl

@[simp] theorem CadenceGenerator.tick_phase (x : CadenceGenerator) : x.tick.phase = x.phase := by
  unfold CadenceGenerator.tick
  split <;> rfl

theorem State.countTick_hornView (s : State) : s.countTick.hornView = s.hornView := by
  simp [State.hornView, State.countTick, CadenceUnit.tick]

end Sys2Proof.Machine

/-!
PROOFS. The modes: what the mode law reads of a state (R162, R163, R168), what each operation does to it, and that every
single change keeps the law.
-/

namespace Sys2Proof.Machine

/-! ## The modes of the part -/

/-- What the mode law reads of a state: the device mode, the kind and the state of the test, the states of the loops. -/
structure Modes where
  device : DeviceMode
  kind   : TestKind
  test   : TestState
  loopA  : LoopState
  loopB  : LoopState

/-- The modes of a state. -/
def State.modes (s : State) : Modes :=
  ⟨s.mode.device, s.mode.test.kind, s.mode.test.state, s.loopA.state, s.loopB.state⟩

/-- The state of a loop. -/
def Modes.loop (m : Modes) : Loop → LoopState
  | .a => m.loopA
  | .b => m.loopB

/-- The modes with the state of a loop replaced. -/
def Modes.withLoop (m : Modes) (l : Loop) (x : LoopState) : Modes :=
  match l with
  | .a => { m with loopA := x }
  | .b => { m with loopB := x }

/-- A test is RUNNING or ABORTING. -/
def Modes.TestOn (m : Modes) : Prop :=
  m.test = .running ∨ m.test = .aborting

/-- The mode law of the modes. -/
structure Modes.Lawful (m : Modes) : Prop where
  testsOffline : m.TestOn → m.device = .offline
  noneRunning  : m.device = .offline → ∀ l, m.loop l ≠ .running
  testing      : ∀ l, m.loop l = .testing → m.kind = .loop ∧ m.TestOn

theorem State.modes_loop (s : State) (l : Loop) : s.modes.loop l = (s.loop l).state := by
  cases l <;> rfl

theorem State.modes_testOn (s : State) : s.modes.TestOn ↔ s.mode.testOn = true := by
  simp [Modes.TestOn, State.modes, ModeController.testOn]

theorem State.modeLaw_iff (s : State) : s.ModeLaw ↔ s.modes.Lawful := by
  constructor
  · rintro ⟨offline, running, testing⟩
    refine ⟨fun on => offline (s.modes_testOn.mp on), fun off l => ?_, fun l h => ?_⟩
    · exact s.modes_loop l ▸ running off l
    · obtain ⟨kind, on⟩ := testing l (s.modes_loop l ▸ h)
      exact ⟨kind, s.modes_testOn.mpr on⟩
  · rintro ⟨offline, running, testing⟩
    refine ⟨fun on => offline (s.modes_testOn.mpr on), fun off l => ?_, fun l h => ?_⟩
    · exact s.modes_loop l ▸ running off l
    · obtain ⟨kind, on⟩ := testing l ((s.modes_loop l).trans h)
      exact ⟨kind, s.modes_testOn.mp on⟩

@[simp] theorem Modes.withLoop_fields (m : Modes) (l : Loop) (x : LoopState) :
    (m.withLoop l x).device = m.device ∧ (m.withLoop l x).kind = m.kind ∧ (m.withLoop l x).test = m.test := by
  cases l <;> exact ⟨rfl, rfl, rfl⟩

theorem Modes.withLoop_loop (m : Modes) (l k : Loop) (x : LoopState) :
    (m.withLoop l x).loop k = if k = l then x else m.loop k := by
  cases l <;> cases k <;> rfl

theorem Modes.withLoop_testOn (m : Modes) (l : Loop) (x : LoopState) : (m.withLoop l x).TestOn ↔ m.TestOn := by
  simp [Modes.TestOn]

/-- A loop given the state it is in. -/
theorem Modes.withLoop_same {m : Modes} {l : Loop} {x : LoopState} (h : m.loop l = x) : m.withLoop l x = m := by
  subst h
  cases l <;> rfl

/-! ### The single changes that keep the law -/

namespace Modes.Lawful

variable {m : Modes} (h : m.Lawful)
include h

/-- A loop changes its state: it may come to be RUNNING only ONLINE, TESTING only during a loop test. -/
theorem withLoop {l : Loop} {x : LoopState} (running : x = .running → m.device = .online)
    (testing : x = .testing → m.kind = .loop ∧ m.TestOn) : (m.withLoop l x).Lawful where
  testsOffline on := by simpa using h.testsOffline ((m.withLoop_testOn l x).mp on)
  noneRunning off k := by
    have off : m.device = .offline := by simpa using off
    rw [Modes.withLoop_loop]
    split
    · exact fun e => absurd ((running e).symm.trans off) DeviceMode.noConfusion
    · exact h.noneRunning off k
  testing k e := by
    rw [Modes.withLoop_loop] at e
    rw [Modes.withLoop_testOn, (m.withLoop_fields l x).2.1]
    split at e
    · exact testing e
    · exact h.testing k e

theorem stop (l : Loop) : (m.withLoop l .stopped).Lawful :=
  h.withLoop (fun e => nomatch e) fun e => nomatch e

/-- ONLINE is entered with no test on. -/
theorem online (idle : ¬ m.TestOn) : Modes.Lawful { m with device := .online } where
  testsOffline on := absurd on idle
  noneRunning off := nomatch off
  testing := h.testing

/-- OFFLINE is entered with no loop left RUNNING, and none newly TESTING. -/
theorem offline {m' : Modes} (kind : m'.kind = m.kind) (test : m'.test = m.test) (device : m'.device = .offline)
    (running : ∀ l, m'.loop l ≠ .running) (testing : ∀ l, m'.loop l = .testing → m.loop l = .testing) :
    m'.Lawful where
  testsOffline _ := device
  noneRunning _ := running
  testing l e := by
    obtain ⟨k, on⟩ := h.testing l (testing l e)
    exact ⟨kind.trans k, by rwa [Modes.TestOn, test]⟩

/-- A test that is on becomes ABORTING. -/
theorem abort (on : m.TestOn) : Modes.Lawful { m with test := .aborting } where
  testsOffline _ := h.testsOffline on
  noneRunning := h.noneRunning
  testing l e := ⟨(h.testing l e).1, .inr rfl⟩

/-- A test ends while no loop is TESTING. -/
theorem finish {final : TestState} (ended : final ≠ .running ∧ final ≠ .aborting)
    (none : ∀ l, m.loop l ≠ .testing) : Modes.Lawful { m with test := final } where
  testsOffline on := absurd on (not_or.mpr ended)
  noneRunning := h.noneRunning
  testing l e := absurd e (none l)

theorem none_testing_of_kind (kind : m.kind ≠ .loop) (l : Loop) : m.loop l ≠ .testing :=
  fun e => kind (h.testing l e).1

end Modes.Lawful

/-- OFFLINE with both loops STOPPED the law holds, whatever the test. -/
theorem Modes.lawful_of_stopped {m : Modes} (device : m.device = .offline) (a : m.loopA = .stopped)
    (b : m.loopB = .stopped) : m.Lawful where
  testsOffline _ := device
  noneRunning _ l := by cases l <;> simp [Modes.loop, a, b]
  testing l e := by cases l <;> simp [Modes.loop, a, b] at e

/-! ## What each operation does to the modes -/

theorem State.device_of_modes {s t : State} (h : t.modes = s.modes) : t.mode.device = s.mode.device :=
  congrArg Modes.device h

/-! ### Lamp test, desk, tests -/

@[simp] theorem State.offer_modes (s : State) (o : Offer) : (s.offer o).modes = s.modes := by
  simp [State.modes]

@[simp] theorem State.setLampTest_modes (s : State) (source : Source) (timer : Timer) (hold : Bool) :
    (s.setLampTest source timer hold).modes = s.modes := by
  unfold State.setLampTest
  dsimp only
  split <;> simp [State.modes]

@[simp] theorem State.expireHostTimer_modes (s : State) : s.expireHostTimer.modes = s.modes := by
  unfold State.expireHostTimer
  split
  · exact s.setLampTest_modes _ _ _
  · rfl

theorem State.onLampTestKey_modes (s : State) (before after : Bool) :
    (s.onLampTestKey before after).modes = s.modes := by
  unfold State.onLampTestKey
  split
  · rfl
  · split <;> exact s.setLampTest_modes _ _ _

@[simp] theorem State.sampleDesk_modes (pins : DeskPins) (s : State) : (s.sampleDesk pins).modes = s.modes := by
  unfold State.sampleDesk
  split
  · dsimp only
    split
    · rw [State.onLampTestKey_modes]
      simp [State.modes]
    · rfl
  · rfl

@[simp] theorem State.setDeskEnable_modes (s : State) (enable : Bool) : (s.setDeskEnable enable).modes = s.modes := by
  unfold State.setDeskEnable
  dsimp only
  split
  · exact State.setLampTest_modes _ _ _ _
  · rfl

theorem setDeskControlAnswer_modes (enable period : Byte) (s : State) :
    (setDeskControlAnswer enable period s).state.modes = s.modes := by
  unfold setDeskControlAnswer
  split
  · exact s.setDeskEnable_modes _
  · rfl

theorem lampTestAnswer_modes (duration : Byte) (s : State) : (lampTestAnswer duration s).state.modes = s.modes := by
  unfold lampTestAnswer
  split
  · split
    · exact s.setLampTest_modes _ _ _
    · rfl
  · rfl

@[simp] theorem State.endTest_modes (s : State) (final : TestState) :
    (s.endTest final).modes = { s.modes with test := final } :=
  State.offer_modes _ _

/-! ### The device mode at the end of a test -/

@[simp] theorem State.endTest_device (s : State) (final : TestState) :
    (s.endTest final).mode.device = s.mode.device :=
  congrArg Modes.device (s.endTest_modes final)

@[simp] theorem State.closeLoopTest_device (s : State) : s.closeLoopTest.mode.device = s.mode.device := by
  unfold State.closeLoopTest
  split <;> simp

@[simp] theorem State.completeMemoryTest_device (s : State) (passed : Bool) :
    (s.completeMemoryTest passed).mode.device = s.mode.device := by
  unfold State.completeMemoryTest
  split <;> simp

@[simp] theorem State.endTestFrame_device (s : State) (l : Loop) :
    (s.endTestFrame l).mode.device = s.mode.device := by
  unfold State.endTestFrame
  dsimp only
  split <;> simp

@[simp] theorem State.endFrame_device (s : State) (l : Loop) : (s.endFrame l).mode.device = s.mode.device := by
  unfold State.endFrame
  (repeat' split) <;> simp

@[simp] theorem State.abortTest_device (s : State) : s.abortTest.mode.device = s.mode.device := by
  unfold State.abortTest
  (repeat' split) <;> simp

/-! ### The loops -/

@[simp] theorem State.withLoop_modes (s : State) (l : Loop) (c : LoopController) :
    (s.withLoop l c).modes = s.modes.withLoop l c.state := by
  cases l <;> rfl

/-- A controller replaced by one in the same state. -/
theorem State.withLoop_modes_same {s : State} {l : Loop} {c : LoopController} (h : c.state = (s.loop l).state) :
    (s.withLoop l c).modes = s.modes := by
  rw [State.withLoop_modes, Modes.withLoop_same ((s.modes_loop l).trans h.symm)]

@[simp] theorem State.startLoop_modes (s : State) (l : Loop) :
    (s.startLoop l).modes = s.modes.withLoop l .running := by
  cases l <;> rfl

@[simp] theorem State.resumeLoop_modes (s : State) (l : Loop) :
    (s.resumeLoop l).modes = s.modes.withLoop l .running := by
  unfold State.resumeLoop
  dsimp only
  split <;> cases l <;> rfl

@[simp] theorem State.stopLoop_modes (s : State) (l : Loop) : (s.stopLoop l).modes = s.modes.withLoop l .stopped := by
  cases l <;> rfl

@[simp] theorem State.startLoopTest_modes (s : State) (l : Loop) :
    (s.startLoopTest l).modes = s.modes.withLoop l .testing := by
  cases l <;> rfl

@[simp] theorem State.expireFrameTimer_modes (l : Loop) (s : State) : (s.expireFrameTimer l).modes = s.modes := by
  unfold State.expireFrameTimer
  split
  · exact State.withLoop_modes_same rfl
  · rfl

theorem State.sendHeader_modes (s : State) (l : Loop) : (s.sendHeader l).modes = s.modes := by
  unfold State.sendHeader
  split
  · rfl
  · exact State.withLoop_modes_same rfl

@[simp] theorem State.startFrame_modes (l : Loop) (s : State) : (s.startFrame l).modes = s.modes := by
  unfold State.startFrame
  split
  · split
    · have started : (s.withLoop l (s.loop l).normalStart).modes = s.modes := State.withLoop_modes_same rfl
      unfold State.startNormalFrame
      rw [State.sendHeader_modes]
      refine Eq.trans ?_ started
      split <;> simp [State.modes]
    · unfold State.startTestFrame
      rw [State.sendHeader_modes]
      exact State.withLoop_modes_same rfl
    · rfl
    · rfl
  · rfl

theorem State.runningSlotEnd_modes (s : State) (l : Loop) (slot : Fin 32) (reply : Option TileReply) :
    (s.runningSlotEnd l slot reply).modes = s.modes := by
  have moved : (s.withLoop l { s.loop l with
      tiles := (s.loop l).tiles.put slot
        (((s.loop l).tiles.get slot).afterSlot reply ((s.loop l).latched.get slot)) }).modes = s.modes :=
    State.withLoop_modes_same rfl
  refine Eq.trans ?_ moved
  simp [State.runningSlotEnd, State.modes]

@[simp] theorem State.endSlot_modes (s : State) (l : Loop) (window : List RxChar) :
    (s.endSlot l window).modes = s.modes := by
  unfold State.endSlot
  split
  · rfl
  · next t _ =>
    split
    · rfl
    · next slot rest _ =>
      have ended (valid : Bool) : (s.endTransfer l t slot rest valid).modes = s.modes :=
        State.withLoop_modes_same rfl
      dsimp only
      split
      · exact (State.runningSlotEnd_modes _ _ _ _).trans (ended _)
      · exact ended _
      · exact ended _
      · exact ended _

@[simp] theorem State.endPass_modes (s : State) : s.endPass.modes = s.modes := by
  unfold State.endPass
  split
  · rfl
  · next p _ => cases h : p.loop <;> simp [State.completePass, State.modes, h, State.withLoop, State.loop]

/-! ### What is due, and the tick -/

theorem State.countTick_modes (s : State) : s.countTick.modes = s.modes := rfl

@[simp] theorem State.togglePhase_modes (g : Generator) (s : State) : (s.togglePhase g).modes = s.modes := by
  simp [State.modes]

@[simp] theorem State.startPass_modes (s : State) : s.startPass.modes = s.modes := by
  simp [State.modes]

@[simp] theorem State.expirePrescale_modes (g : Generator) (s : State) : (s.expirePrescale g).modes = s.modes := by
  simp [State.modes]

@[simp] theorem State.followUps_modes (s : State) : s.followUps.modes = s.modes := by
  simp [State.followUps, State.frameNow]

@[simp] theorem State.atOnce_modes (s : State) : s.atOnce.modes = s.modes := by
  simp [State.atOnce, State.settleGenerator, State.timerNow, State.frameNow]

end Sys2Proof.Machine

/-!
PROOFS. Every step keeps HORN and the mode law (O58). HORN goes through the relation across a step; the mode law needs
the request gate as well, which lets no SET MODE pass while a test is on (R179).
-/

namespace Sys2Proof.Machine

/-! ## What ends or aborts a test, and the mode changes -/

/-- If the mode law holds in one state, it does in the other. -/
def State.KeepsModes (s t : State) : Prop :=
  s.modes.Lawful → t.modes.Lawful

theorem State.KeepsModes.of_modes {s t : State} (h : t.modes = s.modes) : s.KeepsModes t := by
  rw [State.KeepsModes, h]
  exact id

theorem State.KeepsModes.refl (s : State) : s.KeepsModes s := id

theorem State.KeepsModes.trans {s t u : State} (h : s.KeepsModes t) (k : t.KeepsModes u) : s.KeepsModes u := k ∘ h

theorem State.stopLoop_keepsModes (s : State) (l : Loop) : s.KeepsModes (s.stopLoop l) := by
  intro h
  rw [State.stopLoop_modes]
  exact h.stop l

theorem State.closeLoopTest_keepsModes (s : State) : s.KeepsModes s.closeLoopTest := by
  unfold State.closeLoopTest
  split
  · next done =>
    simp only [State.loopTestOver, decide_eq_true_eq] at done
    obtain ⟨-, -, stoppedA, stoppedB⟩ := done
    intro h
    rw [State.endTest_modes]
    refine h.finish ?_ fun l => ?_
    · (repeat' split) <;> simp
    · cases l <;> simp [Modes.loop, State.modes, stoppedA, stoppedB]
  · exact .refl s

theorem State.completeMemoryTest_keepsModes (s : State) (passed : Bool) :
    s.KeepsModes (s.completeMemoryTest passed) := by
  unfold State.completeMemoryTest
  split
  · next runs =>
    simp only [State.memoryTestRuns, decide_eq_true_eq] at runs
    intro h
    rw [State.endTest_modes]
    refine h.finish (by split <;> simp) (h.none_testing_of_kind ?_)
    simp [State.modes, runs.1]
  · exact .refl s

theorem State.endTestFrame_keepsModes (s : State) (l : Loop) : s.KeepsModes (s.endTestFrame l) := by
  have test (n : Nat) : (s.mode.test.withFrames l n).kind = s.mode.test.kind ∧
      (s.mode.test.withFrames l n).state = s.mode.test.state := by cases l <;> exact ⟨rfl, rfl⟩
  have counted : (s.mode.test.frameDone l (s.loop l).latched).kind = s.mode.test.kind ∧
      (s.mode.test.frameDone l (s.loop l).latched).state = s.mode.test.state := by
    unfold TestRecord.frameDone
    dsimp only
    split <;> exact test _
  have ended : ({ s.withLoop l (s.loop l).testEnd with
      mode := { s.mode with test := s.mode.test.frameDone l (s.loop l).latched } } : State).modes = s.modes := by
    refine Eq.trans (b := (s.withLoop l (s.loop l).testEnd).modes) ?_ (State.withLoop_modes_same rfl)
    simp [State.modes, counted]
  unfold State.endTestFrame
  dsimp only
  split
  · exact ((State.KeepsModes.of_modes ended).trans (State.stopLoop_keepsModes _ l)).trans
      (State.closeLoopTest_keepsModes _)
  · exact .of_modes ended

theorem State.endFrame_keepsModes (l : Loop) (s : State) : s.KeepsModes (s.endFrame l) := by
  have ended : (s.withLoop l (s.loop l).normalEnd).modes = s.modes := State.withLoop_modes_same rfl
  unfold State.endFrame
  split
  · split
    · exact .of_modes ended
    · exact (State.KeepsModes.of_modes ended).trans (State.stopLoop_keepsModes _ l)
    · exact s.endTestFrame_keepsModes l
    · exact .refl s
  · exact .refl s

theorem State.abortLoop_keepsModes (s : State) (l : Loop) : s.KeepsModes (s.abortLoop l) := by
  unfold State.abortLoop
  split
  · exact s.stopLoop_keepsModes l
  · exact .refl s

theorem State.abortTest_keepsModes {s : State} (on : s.mode.testOn = true) : s.KeepsModes s.abortTest := by
  unfold State.abortTest
  split
  · exact .refl s
  · split
    · next memory =>
      intro h
      rw [State.endTest_modes]
      exact h.finish (by simp) (h.none_testing_of_kind (by simp [State.modes, memory]))
    · have marked : s.KeepsModes { s with mode := { s.mode with test := { s.mode.test with state := .aborting } } } :=
        fun h => h.abort (s.modes_testOn.mpr on)
      exact ((marked.trans (State.abortLoop_keepsModes _ .a)).trans (State.abortLoop_keepsModes _ .b)).trans
        (State.closeLoopTest_keepsModes _)

theorem State.startLoopTest_keepsModes {s : State} (kind : s.modes.kind = .loop) (on : s.modes.TestOn) (l : Loop) :
    s.KeepsModes (s.startLoopTest l) := by
  intro h
  rw [State.startLoopTest_modes]
  exact h.withLoop (fun e => nomatch e) fun _ => ⟨kind, on⟩

theorem runTestAnswer_keepsModes (kind : Byte) (s : State) : s.KeepsModes (runTestAnswer kind s).state := by
  unfold runTestAnswer
  split
  · split
    · next idle =>
      obtain ⟨device, stoppedA, stoppedB⟩ := idle
      dsimp only
      intro _
      split
      · refine Modes.lawful_of_stopped ?_ ?_ ?_ <;> simp [State.modes, device, stoppedA, stoppedB]
      · have set : ({ s with mode := { s.mode with test := TestRecord.started .loop } } : State).modes.Lawful :=
          Modes.lawful_of_stopped device stoppedA stoppedB
        refine State.startLoopTest_keepsModes ?_ ?_ .b (State.startLoopTest_keepsModes rfl (.inl rfl) .a set)
        · simp [State.modes, TestRecord.started]
        · simp [Modes.TestOn, State.modes, TestRecord.started]
    · exact .refl s
  · exact .refl s

/-! ### SET MODE (R162, R163) -/

theorem State.loopOnline_keepsModes {s : State} (l : Loop) (device : s.mode.device = .online) :
    s.KeepsModes (s.loopOnline l) := by
  have runs (h : s.modes.Lawful) : (s.modes.withLoop l .running).Lawful :=
    h.withLoop (fun _ => device) fun e => nomatch e
  unfold State.loopOnline
  split
  · exact fun h => s.startLoop_modes l ▸ runs h
  · exact fun h => s.resumeLoop_modes l ▸ runs h
  · exact .refl s
  · exact .refl s

/-- SET MODE ONLINE, as the gate lets it pass: with no test on. -/
theorem setModeOnlineAnswer_keepsModes {s : State} (idle : s.mode.testOn = false) :
    s.KeepsModes (setModeOnlineAnswer s).state := by
  unfold setModeOnlineAnswer
  split
  · exact .refl s
  · have entered : s.KeepsModes (s.withDevice .online) := fun h =>
      h.online fun on => absurd (s.modes_testOn.mp on) (by simp [idle])
    refine .trans (.trans (.trans entered (State.loopOnline_keepsModes .a rfl))
      (State.loopOnline_keepsModes .b (by simp))) (.of_modes ?_)
    simp [State.offerMode, State.modes]

/-- After SET MODE OFFLINE at a loop it is not RUNNING, and TESTING only if it was. -/
theorem State.loopOffline_modes (s : State) (l : Loop) :
    ∃ x : LoopState, (s.loopOffline l).modes = s.modes.withLoop l x ∧ x ≠ .running ∧
      (x = .testing → s.modes.loop l = .testing) := by
  have same {x : LoopState} (e : (s.loop l).state = x) : s.modes = s.modes.withLoop l x :=
    (Modes.withLoop_same ((s.modes_loop l).trans e)).symm
  unfold State.loopOffline
  split
  · split
    · exact ⟨.stopping, by cases l <;> rfl, by simp, by simp⟩
    · exact ⟨.stopped, s.stopLoop_modes l, by simp, by simp⟩
  · next e => exact ⟨.stopping, same e, by simp, by simp⟩
  · next e => exact ⟨.stopped, same e, by simp, by simp⟩
  · next e => exact ⟨.testing, same e, by simp, fun _ => (s.modes_loop l).trans e⟩

theorem setModeOfflineAnswer_keepsModes (s : State) : s.KeepsModes (setModeOfflineAnswer s).state := by
  unfold setModeOfflineAnswer
  split
  · exact .refl s
  · intro h
    obtain ⟨a, modesA, leftA, heldA⟩ := ((s.withDevice .offline).deriveHorn).loopOffline_modes .a
    obtain ⟨b, modesB, leftB, heldB⟩ := (((s.withDevice .offline).deriveHorn).loopOffline .a).loopOffline_modes .b
    have left : ((((s.withDevice .offline).deriveHorn).loopOffline .a).loopOffline .b).modes =
        ⟨.offline, s.mode.test.kind, s.mode.test.state, a, b⟩ := by
      rw [modesB, modesA]
      rfl
    have heldB : b = .testing → s.modes.loop .b = .testing := fun e => by
      have := heldB e
      rwa [modesA] at this
    have lawful : Modes.Lawful ⟨.offline, s.mode.test.kind, s.mode.test.state, a, b⟩ := by
      refine h.offline rfl rfl rfl (fun l => ?_) fun l e => ?_
      · cases l <;> assumption
      · cases l
        · exact heldA e
        · exact heldB e
    have quiet (hold : Bool) (timer : Timer) (t : State) :
        ({ t with mode := { t.mode with hostTimer := timer, deskHold := hold } } : State).modes = t.modes := rfl
    dsimp only
    split <;> simpa only [State.offerMode, State.offerLampTest, State.offer_modes, quiet, left] using lawful

/-! ### The other requests -/

theorem State.withNamed_modes {s : State} {point : Half} {f : Nat → PointRecord → Answer}
    (h : ∀ r, (f point.toNat r).state.modes = s.modes) : (s.withNamed point f).state.modes = s.modes := by
  unfold State.withNamed
  split
  · split
    · rfl
    · exact h _
  · rfl

theorem updatesFrom_modes (us : List Update) :
    ∀ (position : Nat) (b : Batch), (updatesFrom position us b).state.modes = b.state.modes := by
  induction us with
  | nil => exact fun _ _ => rfl
  | cons u rest ih =>
    intro position b
    rw [updatesFrom, ih]
    split <;> simp [Batch.apply, Batch.skip, State.modes]

theorem storePeriodsFrom_modes (ps : List Half) :
    ∀ (number : Nat) (s : State), (storePeriodsFrom number ps s).modes = s.modes := by
  induction ps with
  | nil => exact fun _ _ => rfl
  | cons p rest ih =>
    intro number s
    rw [storePeriodsFrom, ih]
    split <;> simp [State.modes]

theorem heartbeatFrom_modes (os : List Byte) :
    ∀ (position : Nat) (b : Batch), (heartbeatFrom position os b).state.modes = b.state.modes := by
  induction os with
  | nil => exact fun _ _ => rfl
  | cons x rest ih =>
    intro position b
    rw [heartbeatFrom, ih]
    split <;> simp [Batch.apply, Batch.skip, State.modes]

theorem acknowledgeAnswer_modes (scope : Byte) (argument : Half) (s : State) :
    (acknowledgeAnswer scope argument s).state.modes = s.modes := by
  rcases acknowledgeAnswer_state scope argument s with same | ⟨entries, taken⟩
  · rw [same]
  · rw [taken]
    simp [State.modes]

/-- What a request that has passed the gate does to the mode law. -/
theorem Request.Known.owner_keepsModes {r : Request} (k : r.Known) (s : State)
    (passes : s.mode.testOn = true → r.duringTest = true) : s.KeepsModes (r.owner s).state := by
  cases k with
  | readStatus => exact .refl s
  | setModeOnline =>
    refine setModeOnlineAnswer_keepsModes (Bool.eq_false_iff.mpr fun on => ?_)
    exact absurd (passes on) Bool.false_ne_true
  | setModeOffline => exact setModeOfflineAnswer_keepsModes s
  | setModeOther => exact .refl s
  | reset => exact .refl s
  | runTest kind => exact runTestAnswer_keepsModes kind s
  | abortTest =>
    show s.KeepsModes (abortTestAnswer s).state
    unfold abortTestAnswer
    split
    · next on => exact State.abortTest_keepsModes on
    · exact .refl s
  | readTestResults => exact .refl s
  | definePoint d =>
    show s.KeepsModes (definePointAnswer d s).state
    unfold definePointAnswer
    dsimp only
    (repeat' split) <;> exact .of_modes (by simp [State.modes, State.refuse])
  | deletePoint p =>
    refine .of_modes (State.withNamed_modes fun r => ?_)
    by_cases alarm : r.kind = .alarm <;> simp [State.modes, alarm]
  | readPoint p => exact .of_modes (State.withNamed_modes fun _ => rfl)
  | updatePoints us => exact .of_modes (updatesFrom_modes us 0 ⟨s, 0, none⟩)
  | forcePoint p v =>
    refine .of_modes (State.withNamed_modes fun r => ?_)
    split <;> simp [State.modes, State.refuse]
  | releasePoint p =>
    refine .of_modes (State.withNamed_modes fun r => ?_)
    split <;> simp [State.modes]
  | inhibitPoint p =>
    refine .of_modes (State.withNamed_modes fun r => ?_)
    by_cases alarm : r.kind = .alarm <;> by_cases i : r.inhibited <;> simp [State.modes, alarm, i]
  | enablePoint p =>
    refine .of_modes (State.withNamed_modes fun r => ?_)
    dsimp only
    (repeat' split) <;> simp [State.modes]
  | acknowledge scope argument => exact .of_modes (acknowledgeAnswer_modes scope argument s)
  | silence => exact .of_modes (show (s.silenceHorn .host).modes = s.modes by simp [State.modes])
  | readAnnunciation start count => exact .of_modes (congrArg State.modes (readAnnunciationAnswer_state start count s))
  | setHornThreshold v =>
    show s.KeepsModes (setHornThresholdAnswer v s).state
    unfold setHornThresholdAnswer
    split <;> exact .of_modes rfl
  | setDeskControl enable period => exact .of_modes (setDeskControlAnswer_modes enable period s)
  | configureTile loop slot size enable =>
    show s.KeepsModes (configureTileAnswer loop slot size enable s).state
    unfold configureTileAnswer
    split
    · exact .of_modes (State.withLoop_modes_same rfl)
    · exact .refl s
  | setLoopTiming loop period =>
    show s.KeepsModes (setLoopTimingAnswer loop period s).state
    unfold setLoopTimingAnswer
    split
    · exact .refl s
    · split
      · exact .of_modes (State.withLoop_modes_same rfl)
      · exact .refl s
  | setIntensity v =>
    show s.KeepsModes (setIntensityAnswer v s).state
    unfold setIntensityAnswer
    split <;> exact .of_modes rfl
  | lampTest d => exact .of_modes (lampTestAnswer_modes d s)
  | readLoopStatus loop => exact .of_modes (congrArg State.modes (readLoopStatusAnswer_state loop s))
  | readLampFaults start => exact .of_modes (congrArg State.modes (readLampFaultsAnswer_state start s))
  | setCadence g prescale lit dark run =>
    show s.KeepsModes (setCadenceAnswer g prescale lit dark run s).state
    unfold setCadenceAnswer
    (repeat' split) <;> exact .of_modes (by simp [State.modes, State.refuse])
  | setTime time => exact .of_modes rfl
  | setSupervision mode period =>
    show s.KeepsModes (setSupervisionAnswer mode period s).state
    unfold setSupervisionAnswer
    dsimp only
    (repeat' split) <;> exact .of_modes (by simp [State.modes, State.refuse])
  | setOutstationPeriods first ps =>
    show s.KeepsModes (setOutstationPeriodsAnswer first ps s).state
    unfold setOutstationPeriodsAnswer
    split
    · exact .of_modes (storePeriodsFrom_modes ps _ s)
    · exact .refl s
  | siteHeartbeat os => exact .of_modes (heartbeatFrom_modes os 0 ⟨s, 0, none⟩)
  | readOutstations first count => exact .of_modes (congrArg State.modes (readOutstationsAnswer_state first count s))
  | readJournal count =>
    show s.KeepsModes (readJournalAnswer count s).state
    unfold readJournalAnswer
    split <;> exact .of_modes rfl
  | setJournalSelection vs =>
    show s.KeepsModes (setJournalSelectionAnswer vs s).state
    unfold setJournalSelectionAnswer
    split <;> exact .of_modes rfl
  | misSized kind duringTest => exact .refl s

/-! ## The service of a request, and the commands -/

/-- The gate refuses a request while a test is on, or hands it to its owner (R179). -/
theorem State.gate_keepsModes (s : State) {r : Request} (k : r.Known) : s.KeepsModes (s.gate r).state := by
  unfold State.gate
  split
  · exact .refl s
  · next passed =>
    split
    · exact k.owner_keepsModes s fun on => by simpa [on] using passed
    · exact .refl s

theorem State.serve_keepsModes (s : State) {r : Request} (k : r.Known) : s.KeepsModes (s.serve r) :=
  (s.gate_keepsModes k).trans (.of_modes rfl)

theorem State.serveItem_keepsModes (s : State) (item : QueueItem) : s.KeepsModes (s.serveItem item) := by
  cases item with
  | request body =>
    cases body with
    | nil => exact .refl s
    | cons kind payload =>
      rw [State.serveItem, State.serveBody]
      split
      · exact .of_modes rfl
      · next r known => exact s.serve_keepsModes (requestOf_known known)
  | rejectCheck => exact .of_modes rfl
  | rejectLength => exact .of_modes rfl

theorem State.beginService_keepsModes (s : State) : s.KeepsModes s.beginService := by
  unfold State.beginService
  split
  · split
    · exact .refl s
    · next item rest _ =>
      have taken : s.KeepsModes { s with link := { s.link with queue := rest } } := .of_modes rfl
      exact taken.trans (State.serveItem_keepsModes _ item)
  · exact .refl s

theorem State.beforeTick_keepsModes (s : State) : s.KeepsModes s.beforeTick := by
  have counted : s.expireLink.expireOutstations.expireGap.expireHostTimer.modes = s.modes := by
    rw [State.expireHostTimer_modes]
    simp [State.modes]
  refine .trans (.trans (.of_modes ?_) (State.beginService_keepsModes _)) (.of_modes (State.followUps_modes _))
  rw [State.sampleDesk_modes, counted]

theorem State.endResetReply_keepsModes (s : State) : s.KeepsModes s.endResetReply := by
  unfold State.endResetReply
  split
  · exact fun _ => Modes.lawful_of_stopped rfl rfl rfl
  · exact .refl s

theorem State.negateReset_keepsModes (straps : Straps) (s : State) : s.KeepsModes (s.negateReset straps) := by
  intro _
  unfold State.negateReset
  split <;> exact Modes.lawful_of_stopped rfl rfl rfl

/-- Taking a command, RESET asserted or not. -/
theorem State.takes_keepsModes {s t : State} {f : State → State} (h : s.KeepsModes (f s)) (e : s.takes f = .next t) :
    s.KeepsModes t := by
  cases Host.Outcome.next.inj e
  split
  · exact .refl s
  · exact h

theorem State.takesAfterDue_keepsModes {s t : State} {f : State → State} (h : ∀ u : State, u.KeepsModes (f u))
    (e : s.takesAfterDue f = .next t) : s.KeepsModes t :=
  State.takes_keepsModes (.trans (.of_modes s.atOnce_modes) (h _)) e

theorem State.takesAfterFollowUps_keepsModes {s t : State} {f : State → State}
    (h : ∀ u : State, (f u).modes = u.modes) (e : s.takesAfterFollowUps f = .next t) : s.KeepsModes t :=
  State.takes_keepsModes (.of_modes ((h s.followUps).trans s.followUps_modes)) e

theorem State.takesAfterPassStart_keepsModes {s t : State} {f : State → State}
    (h : ∀ u : State, (f u).modes = u.modes) (e : s.takesAfterPassStart f = .next t) : s.KeepsModes t :=
  State.takes_keepsModes (.of_modes ((h s.startPass).trans s.startPass_modes)) e

theorem State.request_keepsModes {s t : State} {c : Instr} {r : Request} (k : r.Known)
    (e : s.request c r = .next t) : s.KeepsModes t := by
  refine State.takesAfterDue_keepsModes (fun u => ?_) e
  split
  · exact u.serve_keepsModes k
  · unfold State.await
    split
    · exact .refl u
    · exact .of_modes rfl

/-- Every command keeps the mode law. -/
theorem exec_keepsModes {c : Instr} {s t : State} (e : exec c s = .next t) : s.KeepsModes t := by
  have served {c : Instr} {r : Request} (k : r.Known) (e : s.request c r = .next t) : s.KeepsModes t :=
    State.request_keepsModes k e
  cases c with
  | readStatus => exact served .readStatus e
  | setModeOnline => exact served .setModeOnline e
  | setModeOffline => exact served .setModeOffline e
  | reset => exact served .reset e
  | softwareReset => exact State.takesAfterDue_keepsModes State.endResetReply_keepsModes e
  | runTest kind => exact served (.runTest kind) e
  | memoryTestCompletion passed =>
    exact State.takesAfterDue_keepsModes (fun u => u.completeMemoryTest_keepsModes passed) e
  | abortTest => exact served .abortTest e
  | readTestResults => exact served .readTestResults e
  | definePoint args => exact served (.definePoint args) e
  | deletePoint point => exact served (.deletePoint point) e
  | readPoint point => exact served (.readPoint point) e
  | updatePoints updates => exact served (.updatePoints updates) e
  | forcePoint point value => exact served (.forcePoint point value) e
  | releasePoint point => exact served (.releasePoint point) e
  | inhibitPoint point => exact served (.inhibitPoint point) e
  | enablePoint point => exact served (.enablePoint point) e
  | acknowledge scope argument => exact served (.acknowledge scope argument) e
  | silence => exact served .silence e
  | readAnnunciation start count => exact served (.readAnnunciation start count) e
  | setHornThreshold value => exact served (.setHornThreshold value) e
  | setDeskControl enable period => exact served (.setDeskControl enable period) e
  | deskSample pins => exact State.takesAfterFollowUps_keepsModes (State.sampleDesk_modes pins) e
  | tick =>
    exact State.takesAfterDue_keepsModes
      (fun u => u.beforeTick_keepsModes.trans (.of_modes (State.countTick_modes _))) e
  | prescaleExpiry generator => exact State.takesAfterFollowUps_keepsModes (State.expirePrescale_modes generator) e
  | phaseToggle generator => exact State.takesAfterPassStart_keepsModes (State.togglePhase_modes generator) e
  | setCadence generator prescale lit dark run => exact served (.setCadence generator prescale lit dark run) e
  | setTime time => exact served (.setTime time) e
  | passStart => exact State.takes_keepsModes (.of_modes s.startPass_modes) e
  | passCompletion => exact State.takesAfterDue_keepsModes (fun u => .of_modes u.endPass_modes) e
  | frameTimerExpiry loop => exact State.takesAfterFollowUps_keepsModes (State.expireFrameTimer_modes loop) e
  | frameStart loop => exact State.takesAfterPassStart_keepsModes (State.startFrame_modes loop) e
  | slotEnd loop window =>
    exact State.takesAfterDue_keepsModes (fun u => .of_modes (u.endSlot_modes loop window)) e
  | frameEnd loop => exact State.takesAfterDue_keepsModes (State.endFrame_keepsModes loop) e
  | configureTile loop slot size enable => exact served (.configureTile loop slot size enable) e
  | setLoopTiming loop period => exact served (.setLoopTiming loop period) e
  | setIntensity value => exact served (.setIntensity value) e
  | readLoopStatus loop => exact served (.readLoopStatus loop) e
  | lampTest duration => exact served (.lampTest duration) e
  | hostTimerExpiry => exact State.takesAfterFollowUps_keepsModes State.expireHostTimer_modes e
  | readLampFaults start => exact served (.readLampFaults start) e
  | linkCountdownExpiry => exact State.takesAfterFollowUps_keepsModes (fun u => by simp [State.modes]) e
  | outstationCountdownExpiry outstation =>
    exact State.takesAfterFollowUps_keepsModes (fun u => by simp [State.modes]) e
  | setSupervision mode period => exact served (.setSupervision mode period) e
  | setOutstationPeriods first periods => exact served (.setOutstationPeriods first periods) e
  | siteHeartbeat outstations => exact served (.siteHeartbeat outstations) e
  | readOutstations first count => exact served (.readOutstations first count) e
  | readJournal count => exact served (.readJournal count) e
  | setJournalSelection values => exact served (.setJournalSelection values) e
  | characterReceived char =>
    exact State.takesAfterDue_keepsModes (fun u => .of_modes (by simp [State.modes])) e
  | gapTimerExpiry => exact State.takesAfterFollowUps_keepsModes (fun u => by simp [State.modes]) e
  | serviceBegin => exact State.takesAfterDue_keepsModes State.beginService_keepsModes e
  | hardwareResetAssert => exact Host.Outcome.next.inj e ▸ .of_modes rfl
  | hardwareResetNegation straps => exact Host.Outcome.next.inj e ▸ s.negateReset_keepsModes straps

/-- Every step keeps the mode law. -/
theorem step_keepsModes {s t : State} (e : step s = .next t) : s.KeepsModes t := by
  unfold step at e
  split at e
  · exact Host.Outcome.next.inj e ▸ .refl s
  · next c rest _ =>
    have taken : s.KeepsModes { s with pending := rest } := .of_modes rfl
    exact taken.trans (exec_keepsModes e)

/-! ## HORN across a step -/

/-- A change that leaves the list, HORN, the reset pin, the FAST phase and the modes. -/
theorem State.KeepsHorn.of_modes {s t : State} (modes : t.modes = s.modes) (alarm : t.alarm = s.alarm)
    (inReset : t.inReset = s.inReset) (cadence : t.cadence = s.cadence) : s.KeepsHorn t :=
  .of_view (by simp [State.hornView, alarm, inReset, cadence, State.device_of_modes modes])

theorem State.onAckPress_keepsHorn (s : State) (formed : Bool) : s.KeepsHorn (s.onAckPress formed) := by
  unfold State.onAckPress State.deskAcknowledge
  split
  · exact State.acknowledgeEntries_keepsHorn .desk s _
  · exact .refl s

theorem State.onSilencePress_keepsHorn (s : State) (formed : Bool) : s.KeepsHorn (s.onSilencePress formed) := by
  unfold State.onSilencePress
  split
  · exact s.silenceHorn_keepsHorn .desk
  · exact .refl s

theorem State.onLampTestKey_keepsHorn (s : State) (before after : Bool) :
    s.KeepsHorn (s.onLampTestKey before after) :=
  .of_modes (s.onLampTestKey_modes before after) (by simp) (by simp) (by simp)

theorem State.sampleDesk_keepsHorn (pins : DeskPins) (s : State) : s.KeepsHorn (s.sampleDesk pins) := by
  unfold State.sampleDesk
  split
  · dsimp only
    split
    · refine .trans ?_ (State.onLampTestKey_keepsHorn _ _ _)
      refine .trans ?_ (State.onSilencePress_keepsHorn _ _)
      refine .trans ?_ (State.onAckPress_keepsHorn _ _)
      exact .of_view rfl
    · exact .of_view rfl
  · exact .refl s

theorem runTestAnswer_keepsHorn (kind : Byte) (s : State) : s.KeepsHorn (runTestAnswer kind s).state := by
  unfold runTestAnswer
  split
  · split
    · dsimp only
      split
      · exact .of_derived ⟨rfl, rfl⟩
      · exact .of_view (by simp [State.hornView])
    · exact .refl s
  · exact .refl s

theorem setModeOnlineAnswer_keepsHorn (s : State) : s.KeepsHorn (setModeOnlineAnswer s).state := by
  unfold setModeOnlineAnswer
  split
  · exact .refl s
  · exact State.KeepsHorn.offer (.of_derived (State.deriveHorn_hornDerived _)) _

theorem setModeOfflineAnswer_keepsHorn (s : State) : s.KeepsHorn (setModeOfflineAnswer s).state := by
  unfold setModeOfflineAnswer
  split
  · exact .refl s
  · have derived : s.KeepsHorn (s.withDevice .offline).deriveHorn :=
      .of_derived (State.deriveHorn_hornDerived _)
    dsimp only
    split <;> exact derived.trans (.of_view (by simp [State.hornView]))

theorem setDeskControlAnswer_keepsHorn (enable period : Byte) (s : State) :
    s.KeepsHorn (setDeskControlAnswer enable period s).state := by
  unfold setDeskControlAnswer
  split
  · exact .of_modes (s.setDeskEnable_modes _) (by simp) (by simp) (by simp)
  · exact .refl s

theorem lampTestAnswer_keepsHorn (duration : Byte) (s : State) : s.KeepsHorn (lampTestAnswer duration s).state := by
  unfold lampTestAnswer
  split
  · split
    · exact .of_modes (s.setLampTest_modes _ _ _) (by simp) (by simp) (by simp)
    · exact .refl s
  · exact .refl s

theorem storePeriodsFrom_hornView (ps : List Half) :
    ∀ (number : Nat) (s : State), (storePeriodsFrom number ps s).hornView = s.hornView := by
  induction ps with
  | nil => exact fun _ _ => rfl
  | cons p rest ih =>
    intro number s
    rw [storePeriodsFrom, ih]
    split <;> simp [State.hornView]

theorem heartbeatFrom_hornView (os : List Byte) :
    ∀ (position : Nat) (b : Batch), (heartbeatFrom position os b).state.hornView = b.state.hornView := by
  induction os with
  | nil => exact fun _ _ => rfl
  | cons x rest ih =>
    intro position b
    rw [heartbeatFrom, ih]
    split <;> simp [Batch.apply, Batch.skip, State.hornView]

/-- What a request does to HORN. -/
theorem Request.Known.owner_keepsHorn {r : Request} (k : r.Known) (s : State) : s.KeepsHorn (r.owner s).state := by
  cases k with
  | readStatus => exact .refl s
  | setModeOnline => exact setModeOnlineAnswer_keepsHorn s
  | setModeOffline => exact setModeOfflineAnswer_keepsHorn s
  | setModeOther => exact .refl s
  | reset => exact .refl s
  | runTest kind => exact runTestAnswer_keepsHorn kind s
  | abortTest =>
    show s.KeepsHorn (abortTestAnswer s).state
    unfold abortTestAnswer
    split <;> exact .of_view (by simp [State.hornView, State.refuse])
  | readTestResults => exact .refl s
  | definePoint d => exact definePointAnswer_keepsHorn d s
  | deletePoint p => exact deletePointAnswer_keepsHorn p s
  | readPoint p => exact State.withNamed_keepsHorn fun _ => .refl s
  | updatePoints us => exact updatesFrom_keepsHorn us 0 ⟨s, 0, none⟩
  | forcePoint p v => exact forcePointAnswer_keepsHorn p v s
  | releasePoint p => exact releasePointAnswer_keepsHorn p s
  | inhibitPoint p => exact inhibitPointAnswer_keepsHorn p s
  | enablePoint p => exact enablePointAnswer_keepsHorn p s
  | acknowledge scope argument => exact acknowledgeAnswer_keepsHorn scope argument s
  | silence => exact s.silenceHorn_keepsHorn .host
  | readAnnunciation start count => exact .of_view (congrArg State.hornView (readAnnunciationAnswer_state start count s))
  | setHornThreshold v =>
    show s.KeepsHorn (setHornThresholdAnswer v s).state
    unfold setHornThresholdAnswer
    split <;> exact .of_view rfl
  | setDeskControl enable period => exact setDeskControlAnswer_keepsHorn enable period s
  | configureTile loop slot size enable =>
    show s.KeepsHorn (configureTileAnswer loop slot size enable s).state
    unfold configureTileAnswer
    split <;> exact .of_view (by simp [State.hornView, State.refuse])
  | setLoopTiming loop period =>
    show s.KeepsHorn (setLoopTimingAnswer loop period s).state
    unfold setLoopTimingAnswer
    (repeat' split) <;> exact .of_view (by simp [State.hornView, State.refuse])
  | setIntensity v =>
    show s.KeepsHorn (setIntensityAnswer v s).state
    unfold setIntensityAnswer
    split <;> exact .of_view rfl
  | lampTest d => exact lampTestAnswer_keepsHorn d s
  | readLoopStatus loop => exact .of_view (congrArg State.hornView (readLoopStatusAnswer_state loop s))
  | readLampFaults start => exact .of_view (congrArg State.hornView (readLampFaultsAnswer_state start s))
  | setCadence g prescale lit dark run => exact setCadenceAnswer_keepsHorn g prescale lit dark run s
  | setTime time => exact .of_view rfl
  | setSupervision mode period =>
    show s.KeepsHorn (setSupervisionAnswer mode period s).state
    unfold setSupervisionAnswer
    dsimp only
    (repeat' split) <;> exact .of_view (by simp [State.hornView, State.refuse])
  | setOutstationPeriods first ps =>
    show s.KeepsHorn (setOutstationPeriodsAnswer first ps s).state
    unfold setOutstationPeriodsAnswer
    split
    · exact .of_view (storePeriodsFrom_hornView ps _ s)
    · exact .refl s
  | siteHeartbeat os => exact .of_view (heartbeatFrom_hornView os 0 ⟨s, 0, none⟩)
  | readOutstations first count => exact .of_view (congrArg State.hornView (readOutstationsAnswer_state first count s))
  | readJournal count =>
    show s.KeepsHorn (readJournalAnswer count s).state
    unfold readJournalAnswer
    split <;> exact .of_view rfl
  | setJournalSelection vs =>
    show s.KeepsHorn (setJournalSelectionAnswer vs s).state
    unfold setJournalSelectionAnswer
    split <;> exact .of_view rfl
  | misSized kind duringTest => exact .refl s

/-- At either reset the list is empty and HORN QUIET. -/
theorem State.hornDerived_of_empty {s : State} (list : s.alarm.list = []) (horn : s.alarm.horn = .quiet)
    (pin : s.alarm.hornPin = false) : s.HornDerived := by
  refine ⟨?_, ?_⟩
  · rw [list, horn, hornOf_unmarked _ _ (by simp)]
  · rw [horn, pin]
    rfl

theorem State.assertReset_hornDerived (s : State) : s.assertReset.HornDerived :=
  ⟨(hornOf_inReset _ _).symm, rfl⟩

/-- HORN as derived is kept across every single event, effect of a request and move of the queue. -/
theorem keepsHorn_stepRelation : StepRelation State.KeepsHorn where
  refl := .refl
  trans := .trans
  nextCommand _ _ := .of_view rfl
  startPass s := .of_view (by simp [State.hornView])
  togglePhase := State.togglePhase_keepsHorn
  startFrame l s := .of_view (by simp [State.hornView])
  expirePrescale g s := .of_view (s.expirePrescale_hornView g)
  expireFrameTimer l s := .of_view (by simp [State.hornView])
  expireLink s := .of_view (by simp [State.hornView])
  expireOutstation n s := .of_view (by simp [State.hornView])
  expireGap s := .of_view (by simp [State.hornView])
  expireHostTimer s := .of_modes s.expireHostTimer_modes (by simp) (by simp) (by simp)
  sampleDesk := State.sampleDesk_keepsHorn
  countTick s := .of_view s.countTick_hornView
  endPass s := by
    unfold State.endPass
    split <;> exact .of_view (by simp [State.hornView])
  endSlot l window s := .of_modes (s.endSlot_modes l window) (by simp) (by simp) (by simp)
  endFrame l s := .of_view (by simp [State.hornView])
  completeMemoryTest passed s := .of_view (by simp [State.hornView])
  receive c s := .of_view (by simp [State.hornView])
  enqueue _ _ := .of_view rfl
  dequeue _ _ _ _ := .of_view rfl
  owner _ s k := k.owner_keepsHorn s
  sendReply _ _ _ _ _ := .of_view rfl
  endResetReply s := by
    unfold State.endResetReply
    split
    · exact .of_derived (State.hornDerived_of_empty rfl rfl rfl)
    · exact .refl s
  assertReset s := .of_derived s.assertReset_hornDerived
  negateReset straps s := by
    unfold State.negateReset
    split <;> exact .of_derived (State.hornDerived_of_empty rfl rfl rfl)

/-- Settles O58: HORN by the relation across a step, the modes command by command. -/
theorem stepsKeepHornAndMode : Obligations.StepsKeepHornAndMode := by
  refine ⟨fun s t derived e => keepsHorn_stepRelation.step e derived, fun s t law e => ?_⟩
  exact t.modeLaw_iff.mpr (step_keepsModes e (s.modeLaw_iff.mp law))

end Sys2Proof.Machine

/-!
PROOFS. The alarm machine and the list (O29), acknowledgement (O30, O31), SILENCE (O32).
-/

namespace Sys2Proof.Machine

/-! ## The alarm machine (R27, R29, Table 2-2) -/

/-- Where an arrival stands: before the first entry of a greater priority number, after all that come before that
(R34). -/
theorem insertArrival_split (e : AnnEntry) (list : List AnnEntry) :
    ∃ front back : List AnnEntry, list = front ++ back ∧ insertArrival e list = front ++ e :: back ∧
      (∀ x ∈ front, x.priority ≤ e.priority) ∧ ∀ x, back.head? = some x → e.priority < x.priority := by
  induction list with
  | nil => exact ⟨[], [], rfl, rfl, by simp, by simp⟩
  | cons y rest ih =>
    unfold insertArrival
    split
    · next lt =>
      refine ⟨[], y :: rest, rfl, rfl, by simp, fun x hx => ?_⟩
      obtain rfl : y = x := by simpa using hx
      exact lt
    · next nlt =>
      obtain ⟨front, back, parts, placed, below, above⟩ := ih
      refine ⟨y :: front, back, by rw [parts]; rfl, by rw [placed]; rfl, fun x hx => ?_, above⟩
      rcases List.mem_cons.mp hx with rfl | hx
      · exact le_of_not_gt nlt
      · exact below x hx

/-- A cell of Table 2-2 that moves the alarm state: the record, the list, then one ALARM entry. -/
theorem State.valueChange_of_move {r : PointRecord} {a : AlarmState} (s : State) (p : Nat) (active : Bool)
    (new : AlarmState) (alarm : r.alarm = some a) (move : a.onValue r.ringBack active = some new) :
    s.valueChange p r active =
      ((s.withPoint p { r with alarm := some new }).relist p r a new).offer
        ⟨.alarm, .host, .point p, a.code, new.code, [], some r.sect⟩ := by
  simp only [State.valueChange, alarm, Option.getD_some, move]
  rfl

/-- A "no change" cell of Table 2-2. -/
theorem State.valueChange_of_stay {r : PointRecord} {a : AlarmState} {active : Bool} (s : State) (p : Nat)
    (alarm : r.alarm = some a) (stay : a.onValue r.ringBack active = none) : s.valueChange p r active = s := by
  simp only [State.valueChange, alarm, Option.getD_some, stay]

/-- Settles O29: the cells of Table 2-2, alarm state by alarm state. -/
theorem valueChangeFollowsItsTable : Obligations.ValueChangeFollowsItsTable := by
  refine ⟨insertArrival_split, fun s p r a alarm => ?_⟩
  intro moved told arrival
  refine ⟨?_, ?_, ?_, ?_⟩
  · rintro rfl
    exact ⟨s.valueChange_of_move p true .alarmUnack alarm rfl, s.valueChange_of_stay p alarm rfl⟩
  · rintro rfl
    exact ⟨s.valueChange_of_stay p alarm rfl, s.valueChange_of_move p false .clearedUnack alarm rfl⟩
  · rintro rfl
    refine ⟨s.valueChange_of_stay p alarm rfl, fun ring => ?_, fun ring => ?_⟩
    · exact s.valueChange_of_move p false .clearedUnack alarm (by simp [AlarmState.onValue, ring])
    · exact s.valueChange_of_move p false .normal alarm (by simp [AlarmState.onValue, ring])
  · rintro rfl
    have reactivated := s.valueChange_of_move p true .alarmUnack alarm rfl
    refine ⟨s.valueChange_of_stay p alarm rfl, fun sounds => ?_, fun silent => ?_⟩
    · have relisted : (moved .alarmUnack).relist p r .clearedUnack .alarmUnack =
          (moved .alarmUnack).withList (markPoint p s.alarm.list) := if_pos (decide_eq_true sounds)
      exact reactivated.trans (congrArg (told · 3 1) relisted)
    · have relisted : (moved .alarmUnack).relist p r .clearedUnack .alarmUnack = moved .alarmUnack :=
        if_neg (by simpa [AlarmUnit.sounds, moved] using silent)
      exact reactivated.trans (congrArg (told · 3 1) relisted)

/-! ## Acknowledgement (R38 to R40, Tables 2-5 and 2-6) -/

/-- A row of Table 2-5: the record, the list, then one ACK entry. -/
theorem State.acknowledgeEntry_of_move {s : State} {e : AnnEntry} {r : PointRecord} {a new : AlarmState}
    (source : Source) (defined : s.point? e.point = some r) (alarm : r.alarm = some a) (move : a.onAck = some new) :
    State.acknowledgeEntry source s e =
      ((s.withPoint e.point { r with alarm := some new }).withList (removePoint e.point s.alarm.list)).offer
        ⟨.ack, source, .point e.point, a.code, new.code, [], some r.sect⟩ := by
  simp only [State.acknowledgeEntry, defined, alarm, Option.getD_some, move]

/-- An entry whose point is not to be acknowledged. -/
theorem State.acknowledgeEntry_of_stay {s : State} {e : AnnEntry} {r : PointRecord} (source : Source)
    (defined : s.point? e.point = some r) (stay : (r.alarm.getD .normal).onAck = none) :
    State.acknowledgeEntry source s e = s := by
  simp only [State.acknowledgeEntry, defined, stay]

/-- Settles O31: the rows of Table 2-5. -/
theorem acknowledgementMovesTheState : Obligations.AcknowledgementMovesTheState := by
  intro source s e r defined left
  refine ⟨fun alarm => State.acknowledgeEntry_of_move source defined alarm rfl,
    fun alarm => State.acknowledgeEntry_of_move source defined alarm rfl, fun unack cleared => ?_⟩
  refine State.acknowledgeEntry_of_stay source defined (Option.eq_none_iff_forall_ne_some.mpr fun new move => ?_)
  rcases AlarmState.onAck_eq_some.mp move with ⟨a, -⟩ | ⟨a, -⟩
  · exact unack (PointRecord.alarmState_of_getD a (by decide))
  · exact cleared (PointRecord.alarmState_of_getD a (by decide))

/-- The answer to an ACKNOWLEDGE that covers a list of entries. -/
def State.acknowledged (s : State) (entries : List AnnEntry) : Answer :=
  { state := s.acknowledgeEntries .host entries, payload := halfBytes entries.length }

theorem acknowledgeAnswer_undefined {s : State} {p : Fin 2048} (h : s.point? p.val = none) :
    acknowledgeAnswer 0 (BitVec.ofNat 16 p.val) s = s.refuse .undefined := by
  simp only [acknowledgeAnswer, toNat_ofFin2048, p.isLt, h, if_true]

theorem acknowledgeAnswer_defined {s : State} {p : Fin 2048} {r : PointRecord} (h : s.point? p.val = some r) :
    acknowledgeAnswer 0 (BitVec.ofNat 16 p.val) s =
      if r.kind = .alarm then
        match s.alarm.list.filter fun e => e.point == p.val with
        | [] => s.refuse .notPending
        | e :: _ => s.acknowledged [e]
      else s.refuse .kind := by
  simp only [acknowledgeAnswer, toNat_ofFin2048, p.isLt, h, if_true]
  rfl

theorem acknowledgeAnswer_section (k : Fin 16) (s : State) :
    acknowledgeAnswer 1 (BitVec.ofNat 16 k.val) s = s.acknowledged (s.alarm.ofSection k) := by
  have value : (BitVec.ofNat 16 k.val).toNat = k.val := by
    rw [BitVec.toNat_ofNat]
    omega
  have code : boundedOf 16 (BitVec.ofNat 16 k.val).toNat = some k := by
    rw [value, boundedOf_of_lt k.isLt]
  simp only [acknowledgeAnswer, code]
  rfl

theorem acknowledgeAnswer_all (argument : Half) (s : State) :
    acknowledgeAnswer 2 argument s = s.acknowledged s.alarm.list := rfl

theorem acknowledgeAnswer_oldest (argument : Half) (s : State) :
    acknowledgeAnswer 3 argument s = s.acknowledged (s.alarm.list.take 1) := rfl

/-- An ACKNOWLEDGE that is taken, by the entries it covers: none, or one after another from the head. -/
theorem exec_acknowledge_taken {s : State} {scope : Byte} {argument : Half} {entries : List AnnEntry}
    (o : s.open = true) (a : acknowledgeAnswer scope argument s = s.acknowledged entries) :
    (entries = [] →
      exec (.acknowledge scope argument) s = .next (s.sendReply 0xA0 .ok (halfBytes 0) false)) ∧
    (entries ≠ [] →
      exec (.acknowledge scope argument) s =
        .next ((entries.foldl (State.acknowledgeEntry .host) s.catchUp).sendReply 0xA0 .ok
          (halfBytes entries.length) false)) := by
  have served := State.request_taken (r := acknowledgeRequest scope argument) o (.acknowledge scope argument) rfl
    (show (0x20 : Byte) ≠ resetKind by decide) a
  refine ⟨fun nothing => ?_, fun covers => ?_⟩
  · subst nothing
    exact served
  · obtain ⟨e, rest, rfl⟩ := List.exists_cons_of_ne_nil covers
    exact served

/-- Settles O30: each scope's branch of the answer, and what an answer that covers entries leaves. -/
theorem acknowledgeCoversItsScope : Obligations.AcknowledgeCoversItsScope := by
  intro s h o
  have refused {argument : Half} {x : Status} (n : x ≠ .ok) (a : acknowledgeAnswer 0 argument s = s.refuse x) :
      exec (.acknowledge 0 argument) s = .next (s.sendReply 0xA0 x [] false) :=
    State.request_refused (r := acknowledgeRequest 0 argument) o (.acknowledge 0 argument) rfl n a
  refine ⟨fun p undefined => ?_, fun p r defined kind => ?_, fun p r defined kind absent => ?_,
    fun p r e defined kind found => ?_, fun k => exec_acknowledge_taken o (acknowledgeAnswer_section k s),
    fun empty => ⟨?_, ?_⟩, fun e rest list => ⟨?_, ?_⟩⟩
  · exact refused (by decide) (acknowledgeAnswer_undefined undefined)
  · exact refused (by decide) ((acknowledgeAnswer_defined defined).trans (if_neg kind))
  · have none : (s.alarm.list.filter fun e => e.point == p.val) = [] := by simpa using absent
    refine refused (by decide) ((acknowledgeAnswer_defined defined).trans ((if_pos kind).trans ?_))
    rw [none]
  · have head : (s.alarm.list.filter fun e => e.point == p.val).head? = some e := by
      rw [List.head?_filter, found]
    obtain ⟨others, covered⟩ := List.head?_eq_some_iff.mp head
    have answer : acknowledgeAnswer 0 (BitVec.ofNat 16 p.val) s = s.acknowledged [e] := by
      refine (acknowledgeAnswer_defined defined).trans ((if_pos kind).trans ?_)
      rw [covered]
    exact (exec_acknowledge_taken o answer).2 (by simp)
  · exact (exec_acknowledge_taken o (acknowledgeAnswer_all h s)).1 empty
  · exact (exec_acknowledge_taken o (acknowledgeAnswer_oldest h s)).1 (by simp [empty])
  · have taken := exec_acknowledge_taken o (acknowledgeAnswer_all h s)
    rw [list] at taken
    exact taken.2 (by simp)
  · have taken := exec_acknowledge_taken o (acknowledgeAnswer_oldest h s)
    rw [list] at taken
    exact taken.2 (by simp)

/-! ## SILENCE (R45) -/

/-- Settles O32: the owner is SILENCE with source HOST, and a list without marks leaves HORN QUIET. -/
theorem silenceClearsEveryMark : Obligations.SilenceClearsEveryMark := by
  intro s o marks
  refine ⟨?_, ?_⟩
  · exact State.request_taken (r := silenceRequest) o .silence rfl (show (0x21 : Byte) ≠ resetKind by decide) rfl
  · refine hornOf_unmarked s.inReset s.mode.device fun e he => ?_
    obtain ⟨x, -, rfl⟩ := List.mem_map.mp he
    rfl

end Sys2Proof.Machine

/-!
PROOFS. The settings a host stores (O14).
-/

namespace Sys2Proof.Machine

/-! ## Codes that are read back -/

theorem boundedOf_byteOf {n : Nat} (v : Fin n) (h : n ≤ 256) : boundedOf n (byteOf v.val).toNat = some v := by
  rw [toNat_byteOf (by omega), boundedOf_of_lt v.isLt]

theorem loopOfCode_loopIndex (l : Loop) : loopOfCode (byteOf (loopIndex l)) = some l := by
  cases l <;> rfl

theorem TileSize.ofCode_outputs (z : TileSize) : TileSize.ofCode (byteOf z.outputs) = some z := by
  cases z <;> rfl

/-! ## The answers with every field in range -/

theorem setHornThresholdAnswer_stores (v : Fin 4) (s : State) :
    setHornThresholdAnswer (byteOf v.val) s = { state := { s with alarm := { s.alarm with threshold := v } } } := by
  rw [setHornThresholdAnswer, boundedOf_byteOf v (by decide)]

theorem setIntensityAnswer_stores (v : Fin 16) (s : State) :
    setIntensityAnswer (byteOf v.val) s = { state := { s with intensity := v } } := by
  rw [setIntensityAnswer, boundedOf_byteOf v (by decide)]

theorem setLoopTimingAnswer_stores (l : Loop) {period : Half} (least : 20 ≤ period.toNat)
    (most : period.toNat ≤ 200) (s : State) :
    setLoopTimingAnswer (byteOf (loopIndex l)) period s =
      { state := s.withLoop l { s.loop l with period := period.toNat } } := by
  rw [setLoopTimingAnswer, loopOfCode_loopIndex]
  exact if_pos ⟨least, most⟩

theorem configureTileAnswer_stores (l : Loop) (slot : Fin 32) (z : TileSize) (e : Bool) (s : State) :
    configureTileAnswer (byteOf (loopIndex l)) (byteOf slot.val) (byteOf z.outputs) (flagByte e) s =
      { state :=
          s.withLoop l
            { s.loop l with
              tiles := (s.loop l).tiles.put slot { (s.loop l).tiles.get slot with size := z, enabled := e } } } := by
  rw [configureTileAnswer, loopOfCode_loopIndex, boundedOf_byteOf slot (by decide), TileSize.ofCode_outputs,
    yesNoOf_flagByte]

/-- Settles O14: each owner stores the field it reads, and nothing stands between the owner and its reply. -/
theorem settingsAreStored : Obligations.SettingsAreStored := by
  intro s o
  have taken {r : Request} {u : State} {payload : List Byte} (i : Instr) (z : r.sized = true)
      (a : r.owner s = ⟨u, .ok, payload⟩) (k : r.kind ≠ resetKind) :
      s.request i r = .next (u.sendReply (r.kind + 0x80) .ok payload false) := State.request_taken o i z k a
  refine ⟨fun v => ?_, fun v => ?_, fun l period least most => ?_, fun l slot z e => ?_, fun time => ?_⟩
  · exact taken (r := setHornThresholdRequest _) (.setHornThreshold _) rfl (setHornThresholdAnswer_stores v s)
      (show (0x23 : Byte) ≠ resetKind by decide)
  · exact taken (r := setIntensityRequest _) (.setIntensity _) rfl (setIntensityAnswer_stores v s)
      (show (0x32 : Byte) ≠ resetKind by decide)
  · exact taken (r := setLoopTimingRequest _ period) (.setLoopTiming _ period) rfl
      (setLoopTimingAnswer_stores l least most s) (show (0x31 : Byte) ≠ resetKind by decide)
  · exact taken (r := configureTileRequest _ _ _ _) (.configureTile _ _ _ _) rfl
      (configureTileAnswer_stores l slot z e s) (show (0x30 : Byte) ≠ resetKind by decide)
  · exact taken (r := setTimeRequest time) (.setTime time) rfl rfl (show (0x39 : Byte) ≠ resetKind by decide)

end Sys2Proof.Machine

/-!
PROOFS. The operator desk: what SET DESK CONTROL stores (O34), and what a sample steps and hands on (O35).
-/

namespace Sys2Proof.Machine

/-! ## The desk hold (R59, R63, R164) -/

/-- An offer changes the journal alone. -/
theorem State.offer_eq_withJournal (s : State) (o : Offer) : s.offer o = { s with journal := (s.offer o).journal } := by
  rcases s.offer_cases o with ⟨-, recorded⟩ | ⟨-, dropped⟩
  · rw [recorded]
  · rw [dropped]

/-- The state with the desk hold as given and no entry offered. -/
def State.withDeskHold (s : State) (hold : Bool) : State :=
  { s with mode := { s.mode with deskHold := hold } }

/-- The OPERATOR entry of a desk hold that starts or ends the lamp test (Table 10-1). -/
def Offer.deskHold (source : Source) (hold : Bool) : Offer :=
  ⟨.operator, source, .none, 2, flagByte hold, [], none⟩

/-- When a desk hold changes the lamp-test state, the host timer does not run, so that the entry's new state is the
desk hold itself. -/
theorem State.setLampTest_deskHold (s : State) (source : Source) (hold : Bool) :
    s.setLampTest source s.mode.hostTimer hold =
      if (s.mode.hostTimer.runs || s.mode.deskHold) = (s.mode.hostTimer.runs || hold) then s.withDeskHold hold
      else (s.withDeskHold hold).offer (.deskHold source hold) := by
  by_cases same : (s.mode.hostTimer.runs || s.mode.deskHold) = (s.mode.hostTimer.runs || hold)
  · exact (if_pos same).trans (if_pos same).symm
  · have stands : s.mode.hostTimer.runs = false := by
      cases runs : s.mode.hostTimer.runs
      · rfl
      · simp [runs] at same
    have told : (s.withDeskHold hold).mode.lampTestActive = hold := by
      simp [ModeController.lampTestActive, State.withDeskHold, stands]
    refine (if_neg same).trans (.trans ?_ (if_neg same).symm)
    show (s.withDeskHold hold).offerLampTest source (s.withDeskHold hold).mode.lampTestActive = _
    rw [told]
    rfl

/-- Ending the desk hold ends the lamp test, and so has an entry, when the hold is set and the host timer stands. -/
theorem State.endDeskHold_eq (s : State) (source : Source) :
    s.endDeskHold source =
      { s.withDeskHold false with
        journal :=
          if s.mode.deskHold && !s.mode.hostTimer.runs then (s.offer (.deskHold source false)).journal
          else s.journal } := by
  have told : ((s.withDeskHold false).offer (.deskHold source false)).journal =
      (s.offer (.deskHold source false)).journal := State.offer_journal_congr rfl rfl _
  rw [State.endDeskHold, State.setLampTest_deskHold, State.offer_eq_withJournal, told]
  cases s.mode.deskHold <;> cases s.mode.hostTimer.runs <;> rfl

/-! ## Desk control (R61 to R63) -/

/-- A change to disabled ends the desk hold, with an entry when the lamp test ends by it; any other leaves the hold. -/
theorem State.setDeskEnable_eq (s : State) (e : Bool) :
    s.setDeskEnable e =
      { s with
        desk := { s.desk with enabled := e }
        mode := { s.mode with deskHold := s.mode.deskHold && !(s.desk.enabled && !e) }
        journal :=
          if (s.desk.enabled && !e) && s.mode.deskHold && !s.mode.hostTimer.runs then
            (s.offer (.deskHold .host false)).journal
          else s.journal } := by
  by_cases disables : s.desk.enabled = true ∧ e = false
  · obtain ⟨enabled, rfl⟩ := disables
    let stored : State := { s with desk := { s.desk with enabled := false } }
    have ended : s.setDeskEnable false = stored.endDeskHold .host := if_pos ⟨enabled, rfl⟩
    have told : (stored.offer (.deskHold .host false)).journal = (s.offer (.deskHold .host false)).journal :=
      State.offer_journal_congr rfl rfl _
    rw [ended, State.endDeskHold_eq, told]
    simp [stored, State.withDeskHold, enabled]
  · have stays : (s.desk.enabled && !e) = false := by simpa using disables
    exact (if_neg disables).trans (by simp [stays])

/-- The record a new period leaves: the period stored, the sample timer loaded, every filter at its level (R62). -/
theorem DeskUnit.withPeriod_of_ne {d : DeskUnit} {period : Nat} (new : period ≠ d.period) :
    d.withPeriod period =
      { d with
        period := period
        timer := .counting period
        ack := ⟨d.ack.level, none, 0⟩
        silence := ⟨d.silence.level, none, 0⟩
        lampTest := ⟨d.lampTest.level, none, 0⟩
        allSections := ⟨d.allSections.level, none, 0⟩
        selector := ⟨d.selector.level, none, 0⟩ } := if_neg new

theorem DeskUnit.withPeriod_same (d : DeskUnit) : d.withPeriod d.period = d := if_pos rfl

theorem DeskUnit.withPeriod_bytes (d : DeskUnit) (period : Nat) :
    (d.withPeriod period).bytes =
      [flagByte d.enabled, byteOf period, flagByte d.ack.level, flagByte d.silence.level, flagByte d.lampTest.level,
        flagByte d.allSections.level, byteOf d.selector.level.val] := by
  by_cases same : period = d.period
  · rw [same, d.withPeriod_same]
    rfl
  · rw [DeskUnit.withPeriod_of_ne same]
    rfl

/-- SET DESK CONTROL with its operands in range stores both and answers with the desk. -/
theorem setDeskControlAnswer_stores (e : Bool) {period : Nat} (range : period = 1 ∨ period = 4 ∨ period = 16)
    (s : State) :
    setDeskControlAnswer (flagByte e) (byteOf period) s =
      { state := { s.setDeskEnable e with desk := (s.setDeskEnable e).desk.withPeriod period }
        payload := ((s.setDeskEnable e).desk.withPeriod period).bytes } := by
  have small : (flagByte e).toNat ≤ 1 := by cases e <;> decide
  have flag : decide (flagByte e = 1) = e := by cases e <;> rfl
  have code : byteOf period = 1 ∨ byteOf period = 4 ∨ byteOf period = 16 := by
    rcases range with rfl | rfl | rfl
    · exact .inl rfl
    · exact .inr (.inl rfl)
    · exact .inr (.inr rfl)
  have value : (byteOf period).toNat = period := toNat_byteOf (by omega)
  rw [setDeskControlAnswer, if_pos ⟨small, code⟩, value, flag]

/-- Settles O34: the enable flag with the desk hold it ends, then the period by the two cases of `withPeriod`. -/
theorem deskControlIsStored : Obligations.DeskControlIsStored := by
  intro s e p o range d restarted disabled
  have served := State.request_taken (r := setDeskControlRequest _ _) o
    (.setDeskControl (flagByte e) (byteOf p)) rfl (show (0x24 : Byte) ≠ resetKind by decide)
    (setDeskControlAnswer_stores e range s)
  rw [State.setDeskEnable_eq, DeskUnit.withPeriod_bytes] at served
  exact served

/-! ## The filters (R53, R54, Table 3-3) -/

section Filters

variable {α : Type} [DecidableEq α]

theorem Filter.step_level (f : Filter α) : f.step f.level = ⟨f.level, none, 0⟩ := if_pos rfl

theorem Filter.step_of_new {f : Filter α} {x : α} (other : x ≠ f.level) (new : f.candidate ≠ some x) :
    f.step x = ⟨f.level, some x, 1⟩ := (if_neg other).trans (if_neg new)

theorem Filter.step_of_candidate {f : Filter α} {x : α} (other : x ≠ f.level) (again : f.candidate = some x) :
    f.step x = if f.count + 1 = 3 then ⟨x, none, 0⟩ else ⟨f.level, some x, f.count + 1⟩ :=
  (if_neg other).trans (if_pos again)

end Filters

/-- A lawful filter that counts nothing has no candidate. -/
theorem Filter.Lawful.candidate_none {α : Type} {f : Filter α} (h : f.Lawful) (zero : f.count = 0) :
    f.candidate = none := by
  obtain ⟨-, counts, -⟩ := h
  simpa [zero] using counts

/-- With two levels, the candidate of a lawful filter that counts is the level other than the filtered one. -/
theorem Filter.Lawful.candidate_other {f : Filter Bool} {x : Bool} (h : f.Lawful) (counting : 0 < f.count)
    (other : x ≠ f.level) : f.candidate = some x := by
  obtain ⟨-, counts, differs⟩ := h
  obtain ⟨c, candidate⟩ := Option.isSome_iff_exists.mp (counts.mpr counting)
  have c_other : c ≠ f.level := fun e => differs (e ▸ candidate)
  rw [candidate, Bool.eq_not_of_ne c_other, Bool.eq_not_of_ne other]

/-- The rows of Table 3-3. -/
theorem Filter.step_twoLevel (f : Filter Bool) (x : Bool) (h : f.Lawful) :
    (x = f.level → f.step x = ⟨f.level, none, 0⟩) ∧
    (x ≠ f.level → f.count = 0 → f.step x = ⟨f.level, some x, 1⟩) ∧
    (x ≠ f.level → f.count = 1 → f.step x = ⟨f.level, some x, 2⟩) ∧
    (x ≠ f.level → f.count = 2 → f.step x = ⟨x, none, 0⟩) := by
  refine ⟨fun level => level ▸ f.step_level, fun other zero => ?_, fun other one => ?_, fun other two => ?_⟩
  · exact Filter.step_of_new other (by simp [h.candidate_none zero])
  · rw [Filter.step_of_candidate other (h.candidate_other (by omega) other), one]
    rfl
  · rw [Filter.step_of_candidate other (h.candidate_other (by omega) other), two]
    rfl

/-- The section selector's samples (R54). -/
theorem Filter.step_selector (f : Filter (Fin 16)) (x : Fin 16) :
    (x = f.level → f.step x = ⟨f.level, none, 0⟩) ∧
    (x ≠ f.level → f.candidate = some x → f.count < 2 → f.step x = ⟨f.level, some x, f.count + 1⟩) ∧
    (x ≠ f.level → f.candidate = some x → f.count = 2 → f.step x = ⟨x, none, 0⟩) ∧
    (x ≠ f.level → f.candidate ≠ some x → f.step x = ⟨f.level, some x, 1⟩) := by
  refine ⟨fun level => level ▸ f.step_level, fun other again few => ?_, fun other again two => ?_, Filter.step_of_new⟩
  · exact (Filter.step_of_candidate other again).trans (if_neg (by omega))
  · exact (Filter.step_of_candidate other again).trans (if_pos (by omega))

/-! ## The key events of a sample (R55 to R59) -/

/-- The entries an ACK press at the desk covers: those of the selector's section, or all with the switch ON (R57). -/
def State.coveredByDesk (s : State) : List AnnEntry :=
  if s.desk.allSections.level then s.alarm.list else s.alarm.ofSection s.desk.selector.level

theorem State.acknowledgeEntries_eq (source : Source) (s : State) (entries : List AnnEntry) :
    s.acknowledgeEntries source entries =
      if entries.isEmpty then s else entries.foldl (State.acknowledgeEntry source) s.catchUp := by
  cases entries <;> rfl

/-- An ACK press that covers no entry changes nothing. -/
theorem State.onAckPress_eq (s : State) (formed : Bool) :
    s.onAckPress formed =
      if formed && !s.coveredByDesk.isEmpty then s.coveredByDesk.foldl (State.acknowledgeEntry .desk) s.catchUp
      else s := by
  have pressed : s.deskAcknowledge s.desk.allSections.level s.desk.selector.level =
      s.acknowledgeEntries .desk s.coveredByDesk := rfl
  rw [State.onAckPress, pressed, State.acknowledgeEntries_eq]
  cases formed <;> cases s.coveredByDesk.isEmpty <;> rfl

/-- The desk hold after a sample of the LAMP TEST key. -/
def holdAfter (before after hold : Bool) : Bool :=
  if before = after then hold else after

theorem State.onLampTestKey_eq (s : State) (before after : Bool) :
    s.onLampTestKey before after =
      if (s.mode.hostTimer.runs || s.mode.deskHold) =
          (s.mode.hostTimer.runs || holdAfter before after s.mode.deskHold) then
        s.withDeskHold (holdAfter before after s.mode.deskHold)
      else
        (s.withDeskHold (holdAfter before after s.mode.deskHold)).offer
          (.deskHold .desk (holdAfter before after s.mode.deskHold)) := by
  by_cases same : before = after
  · have held : holdAfter before after s.mode.deskHold = s.mode.deskHold := if_pos same
    rw [held, if_pos rfl]
    exact if_pos same
  · have moved : holdAfter before after s.mode.deskHold = after := if_neg same
    rw [moved, ← State.setLampTest_deskHold]
    refine (if_neg same).trans ?_
    cases after <;> rfl

/-- The Desk Unit a sample leaves: the filters stepped and the timer loaded with the period (R52). -/
def DeskUnit.sampled (d : DeskUnit) (pins : DeskPins) : DeskUnit :=
  { d.filtered pins with timer := .counting d.period }

theorem State.sampleDesk_held {s : State} (pins : DeskPins) (due : s.desk.timer = .expired)
    (held : s.passesKeys = false) : s.sampleDesk pins = { s with desk := s.desk.sampled pins } := by
  simp [State.sampleDesk, State.sampleDue, due, held, DeskUnit.sampled]

theorem State.sampleDesk_passed {s : State} (pins : DeskPins) (due : s.desk.timer = .expired)
    (passed : s.passesKeys = true) :
    s.sampleDesk pins =
      ((({ s with desk := s.desk.sampled pins } : State).onAckPress
            (!s.desk.ack.level && (s.desk.sampled pins).ack.level)).onSilencePress
          (!s.desk.silence.level && (s.desk.sampled pins).silence.level)).onLampTestKey
        s.desk.lampTest.level (s.desk.sampled pins).lampTest.level := by
  simp [State.sampleDesk, State.sampleDue, due, passed, DeskUnit.sampled]

/-- Settles O35: the filters' tables, then a sample by whether it is due and whether the keys are passed on. -/
theorem samplesAreFilteredAndHandedOn : Obligations.SamplesAreFilteredAndHandedOn := by
  refine ⟨Filter.step_twoLevel, Filter.step_selector, fun s pins takes => ?_⟩
  have taken : exec (.deskSample pins) s = .next (s.sampleDesk pins) :=
    State.takesAfterFollowUps_of_takesExpiries takes _
  refine ⟨fun undue => ?_, fun due => ⟨fun held => ?_, fun online enabled => ?_⟩⟩
  · rw [taken, State.sampleDesk_undue (by simpa [State.sampleDue] using undue)]
  · have stops : s.passesKeys = false := by
      rcases held with offline | disabled
      · simp [State.passesKeys, offline]
      · simp [State.passesKeys, disabled]
    rw [taken, State.sampleDesk_held pins due stops]
    rfl
  · intro covered b marks c hold moved
    have passes : s.passesKeys = true := by simp [State.passesKeys, online, enabled]
    have acknowledges : ({ s with desk := s.desk.sampled pins } : State).onAckPress
        (!s.desk.ack.level && (s.desk.sampled pins).ack.level) = b := State.onAckPress_eq _ _
    have silences : b.onSilencePress (!s.desk.silence.level && (s.desk.sampled pins).silence.level) = c := rfl
    have mode : c.mode = s.mode := by
      rw [← silences, ← acknowledges]
      simp
    have holds : c.withDeskHold hold = moved := by rw [State.withDeskHold, mode]
    rw [taken, State.sampleDesk_passed pins due passes, acknowledges, silences, State.onLampTestKey_eq, mode, ← holds]
    rfl

end Sys2Proof.Machine

/-!
PROOFS. The tick (O37): timers and transmissions counted tick by tick, and the tick handed to everything that counts.
-/

namespace Sys2Proof.Machine

/-! ## Timers and transmissions over many ticks (R67, R175, R177) -/

theorem Timer.tick_counting {n : Nat} (h : 2 ≤ n) : (Timer.counting n).tick = .counting (n - 1) :=
  if_neg (by omega)

/-- A timer loaded with `n` counts at each of its first `n - 1` ticks and expires at the next. -/
theorem Timer.iterate_tick {n k : Nat} (loaded : 1 ≤ n) :
    (k < n → Nat.iterate Timer.tick k (.counting n) = .counting (n - k)) ∧
    Nat.iterate Timer.tick n (.counting n) = .expired := by
  have counts : ∀ k, k < n → Nat.iterate Timer.tick k (.counting n) = .counting (n - k) := by
    intro k
    induction k with
    | zero => exact fun _ => rfl
    | succ k ih =>
      intro h
      rw [Function.iterate_succ_apply', ih (by omega), Timer.tick_counting (by omega), Nat.sub_sub]
  refine ⟨counts k, ?_⟩
  obtain ⟨m, rfl⟩ := Nat.exists_eq_add_of_le' loaded
  rw [Function.iterate_succ_apply', counts m (by omega), Nat.add_sub_cancel_left]
  rfl

/-- The gap timer counts at each of its `n` ticks and expires at the tick after. -/
theorem Timer.iterate_tickGap (n k : Nat) :
    (k ≤ n → Nat.iterate Timer.tickGap k (.counting n) = .counting (n - k)) ∧
    Nat.iterate Timer.tickGap (n + 1) (.counting n) = .expired := by
  have counts : ∀ k, k ≤ n → Nat.iterate Timer.tickGap k (.counting n) = .counting (n - k) := by
    intro k
    induction k with
    | zero => exact fun _ => rfl
    | succ k ih =>
      intro h
      rw [Function.iterate_succ_apply', ih (by omega), Timer.tickGap, if_neg (by omega), Nat.sub_sub]
  refine ⟨counts k, ?_⟩
  rw [Function.iterate_succ_apply', counts n (by omega), Nat.sub_self]
  rfl

theorem Reply.tick_sends {rate : Nat} {r : Reply} (goesOn : r.ofReset = true ∨ 0 < r.left) :
    r.tick rate = some { r with left := r.left - rate } := by
  rcases Reply.tick_cases rate r with ⟨zero, ordinary, -⟩ | ⟨-, sends⟩
  · rcases goesOn with ofReset | left
    · rw [ordinary] at ofReset
      cases ofReset
    · omega
  · exact sends

theorem Reply.tick_ends {rate : Nat} {r : Reply} (ordinary : r.ofReset = false) (zero : r.left = 0) :
    r.tick rate = none :=
  if_pos ⟨zero, ordinary⟩

/-- One tick of the transmitter, whether a reply is being sent or not. -/
def tickReply (rate : Nat) (x : Option Reply) : Option Reply :=
  x.bind (Reply.tick rate)

/-- A reply is being sent until the tick after its last bits; the reply to RESET at every tick. -/
theorem iterate_tickReply_sends {rate k : Nat} {r : Reply}
    (goesOn : r.ofReset = true ∨ k = 0 ∨ (k - 1) * rate < r.left) :
    Nat.iterate (tickReply rate) k (some r) = some { r with left := r.left - k * rate } := by
  induction k with
  | zero => simp
  | succ k ih =>
    have left : r.ofReset = true ∨ k * rate < r.left := by simpa using goesOn
    have before : r.ofReset = true ∨ k = 0 ∨ (k - 1) * rate < r.left :=
      left.imp_right fun h => .inr (lt_of_le_of_lt (Nat.mul_le_mul_right rate (Nat.sub_le k 1)) h)
    rw [Function.iterate_succ_apply', ih before]
    have sends := Reply.tick_sends (rate := rate) (r := { r with left := r.left - k * rate })
      (left.imp_right Nat.sub_pos_of_lt)
    rw [Nat.sub_sub, ← Nat.succ_mul] at sends
    exact sends

/-- An ordinary reply has ended at the tick after its last bits, and stays so. -/
theorem iterate_tickReply_ends {rate k : Nat} {r : Reply} (ordinary : r.ofReset = false) (late : 1 ≤ k)
    (sent : r.left ≤ (k - 1) * rate) : Nat.iterate (tickReply rate) k (some r) = none := by
  induction k, late using Nat.le_induction with
  | base =>
    exact Reply.tick_ends ordinary (by simpa using sent)
  | succ k late ih =>
    rw [Function.iterate_succ_apply']
    rcases Nat.lt_or_ge ((k - 1) * rate) r.left with still | ended
    · rw [iterate_tickReply_sends (.inr (.inr still))]
      exact Reply.tick_ends ordinary (Nat.sub_eq_zero_of_le sent)
    · rw [ih ended]
      rfl

/-- Settles O37: the timers and the transmission by induction over the ticks, then the tick of a settled part. -/
theorem tickIsHandedToEveryTimer : Obligations.TickIsHandedToEveryTimer := by
  refine ⟨fun n k => Timer.iterate_tick, Timer.iterate_tickGap, fun h => ⟨rfl, rfl⟩, fun rate k r => ?_,
    fun s attends => ?_⟩
  · exact ⟨iterate_tickReply_sends, iterate_tickReply_ends⟩
  have taken : exec .tick s = .next s.beforeTick.countTick :=
    State.takesAfterDue_of_attends attends fun u => u.beforeTick.countTick
  refine ⟨taken, fun settled => ?_⟩
  have ready : s.ready = true := by
    simp only [State.attends, Bool.and_eq_true] at attends
    exact State.ready_of_quiet attends.2
  rw [taken, State.beforeTick_of_settled settled ready]
  rfl

end Sys2Proof.Machine

/-!
PROOFS. The cadence generators (O38): an expiry and a toggle that are due, what a tick does to a generator, and that a
tick leaves nothing to come before the expiries it brings.
-/

namespace Sys2Proof.Machine

/-! ## Expiries and toggles that are due (R71, R72) -/

theorem State.prescaleDue_iff (s : State) (g : Generator) :
    s.prescaleDue g = true ↔
      (s.cadence.generator g).running = true ∧ (s.cadence.generator g).prescaleCounter = .expired := by
  simp [State.prescaleDue]

theorem State.prescaleDue_eq_false_iff (s : State) (g : Generator) :
    s.prescaleDue g = false ↔
      (s.cadence.generator g).running = false ∨ (s.cadence.generator g).prescaleCounter ≠ .expired := by
  rw [← Bool.not_eq_true, State.prescaleDue_iff, not_and_or, Bool.not_eq_true]

theorem State.toggleDue_iff (s : State) (g : Generator) :
    s.toggleDue g = true ↔
      (s.cadence.generator g).running = true ∧ (s.cadence.generator g).phaseCounter = .expired := by
  simp [State.toggleDue]

theorem State.toggleDue_eq_false_iff (s : State) (g : Generator) :
    s.toggleDue g = false ↔
      (s.cadence.generator g).running = false ∨ (s.cadence.generator g).phaseCounter ≠ .expired := by
  rw [← Bool.not_eq_true, State.toggleDue_iff, not_and_or, Bool.not_eq_true]

/-- The generator after a prescale expiry: its prescale counter loaded, its phase counter stepped by one cadence tick. -/
def CadenceGenerator.expired (x : CadenceGenerator) : CadenceGenerator :=
  { x with prescaleCounter := .counting x.prescaleReload, phaseCounter := x.phaseCounter.tick }

theorem State.expirePrescale_due {s : State} {g : Generator} (due : s.prescaleDue g = true) :
    s.expirePrescale g = s.withGenerator g (s.cadence.generator g).expired :=
  if_pos due

theorem State.togglePhase_due {s : State} {g : Generator} (due : s.toggleDue g = true) :
    s.togglePhase g = (s.withGenerator g (s.cadence.generator g).toggled).followPhase g :=
  if_pos due

theorem CadenceGenerator.toggled_phaseCounter_ne (x : CadenceGenerator) : x.toggled.phaseCounter ≠ .expired := by
  unfold CadenceGenerator.toggled
  split <;> exact Timer.noConfusion

/-! ## A generator stored and handed on (R73) -/

/-- The Alarm Unit's record with HORN derived for a FAST phase, RESET not asserted (R44). -/
def State.hornAt (s : State) (phase : Phase) : AlarmUnit :=
  { s.alarm with
    horn := hornOf false s.mode.device s.alarm.list
    hornPin := hornSignal (hornOf false s.mode.device s.alarm.list) phase }

/-- FAST alone is handed to the Alarm Unit. -/
theorem State.withGenerator_followPhase {s : State} (running : s.inReset = false) (g : Generator)
    (x : CadenceGenerator) :
    (s.withGenerator g x).followPhase g =
      { s with
        cadence := s.cadence.withGenerator g x
        alarm := if g = .fast then s.hornAt x.phase else s.alarm } := by
  cases g with
  | fast => simp only [if_true, State.hornAt, ← running]; rfl
  | slow => rfl
  | wink => rfl

/-! ## A generator at a tick (R71) -/

theorem CadenceUnit.generator_tick (c : CadenceUnit) (g : Generator) :
    c.tick.generator g = (c.generator g).tick := by
  cases g <;> rfl

theorem CadenceGenerator.tick_of_running {x : CadenceGenerator} (running : x.running = true) :
    x.tick = { x with prescaleCounter := x.prescaleCounter.tick } :=
  if_pos running

theorem CadenceGenerator.tick_last {x : CadenceGenerator} (running : x.running = true)
    (last : x.prescaleCounter = .counting 1) : x.tick = { x with prescaleCounter := .expired } := by
  rw [CadenceGenerator.tick_of_running running, last]
  rfl

theorem CadenceGenerator.tick_of_stopped {x : CadenceGenerator} (stopped : x.running = false) : x.tick = x :=
  if_neg (Bool.eq_false_iff.mp stopped)

/-- A tick steps the prescale counter alone. -/
theorem CadenceGenerator.tick_frame (x : CadenceGenerator) :
    x.tick.running = x.running ∧ x.tick.phaseCounter = x.phaseCounter := by
  unfold CadenceGenerator.tick
  split <;> exact ⟨rfl, rfl⟩

/-! ## Nothing is left to follow (R72, R83, R84; log entry 4)

A toggle, a frame start and a pass start that have been taken are due no more, and none of them makes an earlier one
due again but a frame start a pass start, which comes right after it. -/

theorem State.toggleDue_congr {s t : State} (h : t.cadence = s.cadence) (g : Generator) :
    t.toggleDue g = s.toggleDue g := by
  rw [State.toggleDue, State.toggleDue, h]

theorem State.frameStartDue_congr {s t : State} {l : Loop} (h : t.loop l = s.loop l) :
    t.frameStartDue l = s.frameStartDue l := by
  rw [State.frameStartDue, State.frameStartDue, h]

/-- A toggle taken is due no more, and makes no other due. -/
theorem State.toggleDue_togglePhase (s : State) (g h : Generator) :
    (s.togglePhase g).toggleDue h = if h = g then false else s.toggleDue h := by
  cases due : s.toggleDue g
  · rw [State.togglePhase_undue due]
    split
    · next same => rw [same, due]
    · rfl
  · have moved : (s.togglePhase g).cadence = s.cadence.withGenerator g (s.cadence.generator g).toggled := by
      rw [State.togglePhase_due due]
      simp
    split
    · next same =>
      rw [Bool.eq_false_iff, Ne, State.toggleDue_iff, moved, same, CadenceUnit.generator_withGenerator]
      exact fun still => CadenceGenerator.toggled_phaseCounter_ne _ still.2
    · next other =>
      simp only [State.toggleDue, moved, CadenceUnit.generator_withGenerator_other _ _ _ _ other]

theorem State.passDue_startPass (s : State) : s.startPass.passDue = false := by
  cases due : s.passDue
  · rw [State.startPass_undue due, due]
  · unfold State.startPass
    rw [if_pos due]
    split
    · rfl
    · next noLoop => simp [State.passDue, noLoop] at due

theorem State.loop_startPass (s : State) (l : Loop) : s.startPass.loop l = s.loop l := by
  cases l <;> simp [State.loop]

theorem State.startPending_sendHeader (s : State) (l : Loop) :
    ((s.sendHeader l).loop l).startPending = (s.loop l).startPending := by
  unfold State.sendHeader
  split
  · rfl
  · rw [State.loop_withLoop]

theorem State.sendHeader_other (s : State) {l m : Loop} (other : m ≠ l) : (s.sendHeader l).loop m = s.loop m := by
  unfold State.sendHeader
  split
  · rfl
  · rw [State.loop_withLoop_other _ _ _ _ other]

/-- A frame start that is due puts a controller with nothing pending in the loop's place and sends its header. -/
theorem State.startFrame_cases (s : State) (l : Loop) :
    s.frameStartDue l = false ∧ s.startFrame l = s ∨
      ∃ (u : State) (c : LoopController), c.startPending = false ∧ s.startFrame l = u.sendHeader l ∧
        ∀ m, u.loop m = (s.withLoop l c).loop m := by
  cases due : s.frameStartDue l
  · exact .inl ⟨rfl, State.startFrame_undue due⟩
  · right
    unfold State.startFrame
    rw [if_pos due]
    split
    · refine ⟨_, (s.loop l).normalStart, rfl, rfl, fun m => ?_⟩
      split <;> cases m <;> simp [State.loop]
    · exact ⟨_, (s.loop l).testStart s.intensity, rfl, rfl, fun m => rfl⟩
    · next stopped => simp [State.frameStartDue, stopped] at due
    · next stopping => simp [State.frameStartDue, stopping] at due

/-- A frame start taken is due no more. -/
theorem State.frameStartDue_startFrame (s : State) (l : Loop) : (s.startFrame l).frameStartDue l = false := by
  rcases s.startFrame_cases l with ⟨undue, same⟩ | ⟨u, c, taken, started, loops⟩
  · rw [same, undue]
  · have pending : ((s.startFrame l).loop l).startPending = false := by
      rw [started, State.startPending_sendHeader, loops, State.loop_withLoop, taken]
    simp [State.frameStartDue, pending]

theorem State.startFrame_other (s : State) {l m : Loop} (other : m ≠ l) : (s.startFrame l).loop m = s.loop m := by
  rcases s.startFrame_cases l with ⟨-, same⟩ | ⟨u, c, -, started, loops⟩
  · rw [same]
  · rw [started, State.sendHeader_other u other, loops, State.loop_withLoop_other _ _ _ _ other]

/-- What follows an event at once leaves nothing that follows at once. -/
theorem State.followUps_ready (s : State) : s.followUps.ready = true := by
  let toggled := ((s.startPass.togglePhase .fast).togglePhase .slow).togglePhase .wink
  have last : s.followUps = (((toggled.frameNow .a).startFrame .b).startPass) := rfl
  have toggles (g : Generator) : s.followUps.toggleDue g = false := by
    have kept : s.followUps.toggleDue g = toggled.toggleDue g :=
      State.toggleDue_congr (by simp [last, State.frameNow]) g
    rw [kept]
    cases g <;> simp [toggled, State.toggleDue_togglePhase]
  have startA : s.followUps.frameStartDue .a = false := by
    have kept : s.followUps.loop .a = (toggled.startFrame .a).loop .a := by
      rw [last, State.loop_startPass, State.startFrame_other _ (by decide), State.frameNow, State.loop_startPass]
    rw [State.frameStartDue_congr kept, State.frameStartDue_startFrame]
  have startB : s.followUps.frameStartDue .b = false := by
    rw [last, State.frameStartDue_congr (State.loop_startPass _ .b), State.frameStartDue_startFrame]
  have pass : s.followUps.passDue = false := State.passDue_startPass _
  simp [State.ready, toggles, startA, startB, pass]

/-- Counting a tick marks expiries, and makes nothing due that follows an event at once. -/
theorem State.countTick_ready (s : State) : s.countTick.ready = s.ready := by
  have toggles (g : Generator) : s.countTick.toggleDue g = s.toggleDue g := by
    obtain ⟨running, phaseCounter⟩ := (s.cadence.generator g).tick_frame
    have stepped : s.countTick.cadence.generator g = (s.cadence.generator g).tick := s.cadence.generator_tick g
    simp only [State.toggleDue, stepped, running, phaseCounter]
  have starts (l : Loop) : s.countTick.frameStartDue l = s.frameStartDue l := by cases l <;> rfl
  have pass : s.countTick.passDue = s.passDue := rfl
  simp only [State.ready, toggles, starts, pass]

/-! ## The requests leave what stands outside the part -/

/-- What a request cannot set: the commands waiting, the reset pin and the sampled straps. -/
def State.outside (s : State) : List Instr × Bool × Straps :=
  (s.pending, s.inReset, s.straps)

theorem State.withNamed_outside {s : State} {point : Half} {f : Nat → PointRecord → Answer}
    (h : ∀ r, (f point.toNat r).state.outside = s.outside) : (s.withNamed point f).state.outside = s.outside := by
  unfold State.withNamed
  split
  · split
    · rfl
    · exact h _
  · rfl

theorem updatesFrom_outside (us : List Update) :
    ∀ (position : Nat) (b : Batch), (updatesFrom position us b).state.outside = b.state.outside := by
  induction us with
  | nil => exact fun _ _ => rfl
  | cons u rest ih =>
    intro position b
    rw [updatesFrom, ih]
    split <;> simp [Batch.apply, Batch.skip, State.outside]

theorem storePeriodsFrom_outside (ps : List Half) :
    ∀ (number : Nat) (s : State), (storePeriodsFrom number ps s).outside = s.outside := by
  induction ps with
  | nil => exact fun _ _ => rfl
  | cons p rest ih =>
    intro number s
    rw [storePeriodsFrom, ih]
    split <;> simp [State.outside]

theorem heartbeatFrom_outside (os : List Byte) :
    ∀ (position : Nat) (b : Batch), (heartbeatFrom position os b).state.outside = b.state.outside := by
  induction os with
  | nil => exact fun _ _ => rfl
  | cons x rest ih =>
    intro position b
    rw [heartbeatFrom, ih]
    split <;> simp [Batch.apply, Batch.skip, State.outside]

/-- No request sets what stands outside the part. -/
theorem Request.Known.owner_outside {r : Request} (k : r.Known) (s : State) :
    (r.owner s).state.outside = s.outside := by
  cases k with
  | readStatus | setModeOther | reset | readTestResults | setTime | misSized => rfl
  | readPoint p => exact State.withNamed_outside fun _ => rfl
  | deletePoint p =>
    refine State.withNamed_outside fun r => ?_
    by_cases alarm : r.kind = .alarm <;> simp [State.outside, alarm]
  | forcePoint p v =>
    refine State.withNamed_outside fun r => ?_
    split <;> simp [State.outside, State.refuse]
  | releasePoint p =>
    refine State.withNamed_outside fun r => ?_
    split <;> simp [State.outside]
  | inhibitPoint p =>
    refine State.withNamed_outside fun r => ?_
    by_cases inhibited : r.inhibited <;> by_cases alarm : r.kind = .alarm <;>
      simp [State.outside, inhibited, alarm]
  | enablePoint p =>
    refine State.withNamed_outside fun r => ?_
    by_cases arrives : r.kind = .alarm ∧ r.effective = some 1 <;> cases inhibited : r.inhibited <;>
      simp [State.outside, arrives]
  | updatePoints us => exact updatesFrom_outside us 0 ⟨s, 0, none⟩
  | siteHeartbeat os => exact heartbeatFrom_outside os 0 ⟨s, 0, none⟩
  | setOutstationPeriods first ps =>
    show (setOutstationPeriodsAnswer first ps s).state.outside = s.outside
    unfold setOutstationPeriodsAnswer
    split
    · exact storePeriodsFrom_outside ps _ s
    · rfl
  | silence => exact show (s.silenceHorn .host).outside = s.outside by simp [State.outside]
  | acknowledge scope argument =>
    show (acknowledgeAnswer scope argument s).state.outside = s.outside
    rcases acknowledgeAnswer_state scope argument s with same | ⟨entries, taken⟩
    · rw [same]
    · simp [taken, State.outside]
  | readAnnunciation start count => exact congrArg State.outside (readAnnunciationAnswer_state start count s)
  | readLoopStatus loop => exact congrArg State.outside (readLoopStatusAnswer_state loop s)
  | readLampFaults start => exact congrArg State.outside (readLampFaultsAnswer_state start s)
  | readOutstations first count => exact congrArg State.outside (readOutstationsAnswer_state first count s)
  | setHornThreshold | setIntensity | readJournal | setJournalSelection | configureTile | setLoopTiming | setCadence |
      setDeskControl | lampTest | setSupervision | setModeOnline | setModeOffline | abortTest | runTest | definePoint =>
    dsimp only [setHornThresholdRequest, setHornThresholdAnswer, setIntensityRequest, setIntensityAnswer,
      readJournalRequest, readJournalAnswer, setJournalSelectionRequest, setJournalSelectionAnswer,
      configureTileRequest, configureTileAnswer, setLoopTimingRequest, setLoopTimingAnswer, setCadenceRequest,
      setCadenceAnswer, setDeskControlRequest, setDeskControlAnswer, lampTestRequest, lampTestAnswer,
      setSupervisionRequest, setSupervisionAnswer, setModeOnlineRequest, setModeOnlineAnswer, setModeOfflineRequest,
      setModeOfflineAnswer, abortTestRequest, abortTestAnswer, runTestRequest, runTestAnswer, definePointRequest,
      definePointAnswer]
    (repeat' split) <;> simp [State.outside, State.refuse]

/-! ## What comes before a tick -/

theorem State.serveItem_outside (s : State) (item : QueueItem) : (s.serveItem item).outside = s.outside := by
  have gated {r : Request} (known : r.Known) : (s.gate r).state.outside = s.outside := by
    unfold State.gate
    (repeat' split)
    · rfl
    · exact known.owner_outside s
    · rfl
  cases item with
  | request body =>
    cases body with
    | nil => rfl
    | cons kind payload =>
      rw [State.serveItem, State.serveBody]
      split
      · rfl
      · next r read => exact gated (requestOf_known read)
  | rejectCheck | rejectLength => rfl

theorem State.beginService_outside (s : State) : s.beginService.outside = s.outside := by
  unfold State.beginService
  split
  · split
    · rfl
    · exact State.serveItem_outside _ _
  · rfl

theorem State.beforeTick_outside (s : State) : s.beforeTick.outside = s.outside := by
  let counted := s.expireLink.expireOutstations.expireGap.expireHostTimer
  calc s.beforeTick.outside
    _ = (counted.sampleDesk counted.desk.pins).beginService.outside := by
      simp [State.beforeTick, State.outside, counted]
    _ = (counted.sampleDesk counted.desk.pins).outside := State.beginService_outside _
    _ = s.outside := by simp [State.outside, counted]

/-- A part that has taken a tick takes the expiries it brings: nothing comes before them. -/
theorem State.takesExpiries_of_tick {s : State} (running : s.inReset = false) :
    s.beforeTick.countTick.takesExpiries = true := by
  have inReset : s.beforeTick.countTick.inReset = false :=
    (congrArg (fun x : List Instr × Bool × Straps => x.2.1) s.beforeTick_outside).trans running
  have ready : s.beforeTick.countTick.ready = true := by
    rw [State.countTick_ready]
    exact State.followUps_ready _
  simp [State.takesExpiries, inReset, ready]

/-! ## The commands -/

theorem exec_tick {s : State} (running : s.inReset = false) :
    exec .tick s = .next s.atOnce.beforeTick.countTick :=
  State.takes_of_running running fun u => u.atOnce.beforeTick.countTick

theorem exec_prescaleExpiry {s : State} (takes : s.takesExpiries = true) (g : Generator) :
    exec (.prescaleExpiry g) s = .next (s.expirePrescale g) :=
  State.takesAfterFollowUps_of_takesExpiries takes (State.expirePrescale g)

theorem exec_phaseToggle {s : State} (running : s.inReset = false) (undue : s.passDue = false) (g : Generator) :
    exec (.phaseToggle g) s = .next (s.togglePhase g) :=
  State.takesAfterPassStart_of_undue running undue (State.togglePhase g)

/-- Settles O38: the tick on the generator it finds, then the expiry and the toggle by whether they are due. -/
theorem generatorsStepAndToggle : Obligations.GeneratorsStepAndToggle := by
  refine ⟨fun n k => Timer.iterate_tick, fun s g running => ?_, fun s g takes => ?_, fun s g running pass => ?_⟩
  · intro x
    have found : s.atOnce.beforeTick.countTick.cadence.generator g = x.tick :=
      s.atOnce.beforeTick.cadence.generator_tick g
    refine ⟨_, exec_tick running, fun stopped => ?_, fun n runs counts many => ?_, fun runs last => ?_⟩
    · rw [found, CadenceGenerator.tick_of_stopped stopped]
    · rw [found, CadenceGenerator.tick_of_running runs, counts, Timer.tick_counting many]
    · have expires := CadenceGenerator.tick_last runs last
      have due : s.atOnce.beforeTick.countTick.prescaleDue g = true := by
        rw [State.prescaleDue_iff, found, expires]
        exact ⟨runs, rfl⟩
      have takes : s.atOnce.beforeTick.countTick.takesExpiries = true :=
        State.takesExpiries_of_tick (by simp [running])
      rw [exec_prescaleExpiry takes, State.expirePrescale_due due, found, expires]
      rfl
  · intro x
    refine ⟨fun undue => ?_, fun runs expired => ?_⟩
    · rw [exec_prescaleExpiry takes, State.expirePrescale_undue ((s.prescaleDue_eq_false_iff g).mpr undue)]
    · rw [exec_prescaleExpiry takes, State.expirePrescale_due ((s.prescaleDue_iff g).mpr ⟨runs, expired⟩)]
      rfl
  · intro x
    refine ⟨fun undue => ?_, fun runs expired => ?_⟩
    · rw [exec_phaseToggle running pass, State.togglePhase_undue ((s.toggleDue_eq_false_iff g).mpr undue)]
    · intro y
      have toggled : exec (.phaseToggle g) s =
          .next
            { s with
              cadence := s.cadence.withGenerator g y
              alarm := if g = .fast then s.hornAt y.phase else s.alarm } := by
        rw [exec_phaseToggle running pass, State.togglePhase_due ((s.toggleDue_iff g).mpr ⟨runs, expired⟩),
          State.withGenerator_followPhase running]
        rfl
      refine ⟨fun other => ?_, fun fast => ?_⟩
      · rw [toggled, if_neg other]
      · rw [toggled, if_pos fast, fast]
        rfl

end Sys2Proof.Machine

/-!
PROOFS. SET CADENCE (O39): what a run code does to a generator, and what the owner stores and answers.
-/

namespace Sys2Proof.Machine

/-! ## Codes and counters (R70, Table 4-4) -/

/-- The code of a generator. -/
def generatorCode (g : Generator) : Byte :=
  if g = .fast then 0 else if g = .slow then 1 else 2

theorem generatorOfCode_generatorCode (g : Generator) : generatorOfCode (generatorCode g) = some g := by
  cases g <;> rfl

/-- A RUNNING generator told to run goes on as it is; any other takes the run state and starts LIT, loaded. -/
theorem CadenceGenerator.act_eq (x : CadenceGenerator) (run : Bool) :
    x.act run =
      if x.running && run then x
      else
        { x with
          running := run
          phase := .lit
          prescaleCounter := .counting x.prescaleReload
          phaseCounter := .counting x.litReload } := by
  simp only [CadenceGenerator.act, Bool.and_eq_true]

/-- The generator as SET CADENCE leaves it (R75 to R77). -/
def CadenceGenerator.set (x : CadenceGenerator) (prescale : Half) (lit dark : Byte) (run : Bool) : CadenceGenerator :=
  (x.write prescale.toNat lit.toNat dark.toNat).act run

/-- The reload values are written whatever the run code does (R75). -/
theorem CadenceGenerator.set_reloads (x : CadenceGenerator) (prescale : Half) (lit dark : Byte) (run : Bool) :
    (x.set prescale lit dark run).prescaleReload = prescale.toNat ∧
    (x.set prescale lit dark run).litReload = lit.toNat ∧ (x.set prescale lit dark run).darkReload = dark.toNat := by
  unfold CadenceGenerator.set CadenceGenerator.act
  split <;> exact ⟨rfl, rfl, rfl⟩

theorem CadenceGenerator.set_bytes (x : CadenceGenerator) (prescale : Half) (lit dark : Byte) (run : Bool)
    (code : Byte) :
    (x.set prescale lit dark run).bytes code =
      [code] ++ halfBytes prescale.toNat ++
        [lit, dark, flagByte (x.set prescale lit dark run).running,
          byteOf (x.set prescale lit dark run).phase.code] ++
        halfBytes (x.set prescale lit dark run).prescaleCounter.left ++
        [byteOf (x.set prescale lit dark run).phaseCounter.left] := by
  obtain ⟨prescaleWritten, litWritten, darkWritten⟩ := x.set_reloads prescale lit dark run
  rw [CadenceGenerator.bytes, prescaleWritten, litWritten, darkWritten, byteOf_toNat, byteOf_toNat]

/-! ## The request -/

/-- SET CADENCE with its operands in range stores the generator, hands it on and answers with it. -/
theorem setCadenceAnswer_stores (g : Generator) {prescale : Half} {lit dark : Byte} (run : Bool) (s : State)
    (prescaleLeast : 1 ≤ prescale.toNat) (prescaleMost : prescale.toNat ≤ 256) (litLeast : 1 ≤ lit.toNat)
    (darkLeast : 1 ≤ dark.toNat) :
    setCadenceAnswer (generatorCode g) prescale lit dark (flagByte run) s =
      { state :=
          (s.withGenerator g ((s.cadence.generator g).set prescale lit dark run)).followPhase g
        payload := ((s.cadence.generator g).set prescale lit dark run).bytes (generatorCode g) } := by
  have small : (flagByte run).toNat ≤ 1 := by cases run <;> decide
  have flag : decide (flagByte run = 1) = run := by cases run <;> rfl
  simp only [setCadenceAnswer, generatorOfCode_generatorCode, flag]
  exact if_pos ⟨prescaleLeast, prescaleMost, litLeast, darkLeast, small⟩

/-- Settles O39: the request is served, and its owner stores the generator that the run code leaves. -/
theorem setCadenceWritesOneGenerator : Obligations.SetCadenceWritesOneGenerator := by
  intro s g prescale lit dark run o prescaleLeast prescaleMost litLeast darkLeast code x y u
  have set : (s.cadence.generator g).set prescale lit dark run = y := CadenceGenerator.act_eq _ run
  have stored : (s.withGenerator g y).followPhase g = u :=
    State.withGenerator_followPhase (State.running_of_open o) g y
  have answer := setCadenceAnswer_stores g run s prescaleLeast prescaleMost litLeast darkLeast
  rw [CadenceGenerator.set_bytes, set, stored] at answer
  exact State.request_taken (r := setCadenceRequest _ _ _ _ _) o (.setCadence code prescale lit dark (flagByte run)) rfl
    (show (0x38 : Byte) ≠ resetKind by decide) answer

end Sys2Proof.Machine

/-!
PROOFS. The appearance of a lamp and its flag (O40).
-/

namespace Sys2Proof.Machine

/-! ## The base appearance (R91 to R93) -/

theorem PointRecord.baseAppearance_status {r : PointRecord} (kind : r.kind = .status) (i : Nat) :
    r.baseAppearance i = Appearance.steadyIf (r.effective = some 1 ∧ i = 0 ∨ r.effective = some 0 ∧ i = 1) := by
  rw [PointRecord.baseAppearance, kind]

theorem PointRecord.baseAppearance_alarm {r : PointRecord} (kind : r.kind = .alarm) (i : Nat) :
    r.baseAppearance i = if r.inhibited then .off else (r.alarm.getD .normal).appearance := by
  rw [PointRecord.baseAppearance, kind]

theorem PointRecord.baseAppearance_enabled {r : PointRecord} {a : AlarmState} {i : Nat} (kind : r.kind = .alarm)
    (enabled : r.inhibited = false) (state : r.alarm = some a) : r.baseAppearance i = a.appearance := by
  rw [PointRecord.baseAppearance_alarm kind, enabled, state]
  rfl

theorem PointRecord.baseAppearance_band {r : PointRecord} (kind : r.kind = .band) (i : Nat) :
    r.baseAppearance i = Appearance.steadyIf (i < r.effective.getD 0) := by
  rw [PointRecord.baseAppearance, kind]

/-! ## The appearance in the order of Table 5-2 (R90, R94) -/

/-- What a lamp of a base appearance shows, by the quality of its point (rows 3 and 4 of Table 5-2, R94). -/
def Quality.shows (base : Appearance) : Quality → Appearance
  | .awaiting => .off
  | .stale => base.stale
  | .good => base
  | .forced => base

theorem State.appearance_free {s : State} {lamp : Nat} (free : s.points.owners.get? lamp = none) :
    s.appearance false lamp = .off := by
  simp [State.appearance, free]

/-- The appearance of an owned lamp: its base appearance at its place in the lamp list, changed by quality. -/
theorem State.appearance_owned {s : State} {lamp p : Nat} {r : PointRecord}
    (owner : s.points.owners.get? lamp = some p) (point : s.point? p = some r) :
    s.appearance false lamp =
      (s.supervision.quality r).shows (r.baseAppearance (r.lamps.findIdx fun n => n.val == lamp)) := by
  simp only [State.appearance, owner, point]
  cases s.supervision.quality r <;> rfl

/-- A lamp is found at its one place in a list without repetition. -/
theorem findIdx_lamp {lamps : List (Fin 4096)} {i : Nat} {n : Fin 4096} (nodup : lamps.Nodup)
    (place : lamps[i]? = some n) : lamps.findIdx (fun m => m.val == n.val) = i := by
  obtain ⟨bound, rfl⟩ := List.getElem?_eq_some_iff.mp place
  rw [List.findIdx_eq bound]
  refine ⟨beq_self_eq_true _, fun j before => ?_⟩
  rw [beq_eq_false_iff_ne, Ne, ← Fin.ext_iff, nodup.getElem_inj_iff]
  exact before.ne

/-- Settles O40: Tables 5-2 to 5-5 row by row. -/
theorem appearanceFollowsItsTables : Obligations.AppearanceFollowsItsTables := by
  refine ⟨fun r kind => ?_, fun r i kind => ?_, fun r i v kind effective => ?_, ⟨rfl, rfl, rfl, rfl⟩,
    fun p => ⟨rfl, rfl, beq_iff_eq, beq_iff_eq, beq_iff_eq⟩,
    fun s lamp => ⟨rfl, State.appearance_free, fun p r owner point => ?_⟩⟩
  · simp only [PointRecord.baseAppearance_status kind]
    constructor <;> intro effective <;> simp [effective, Appearance.steadyIf]
  · refine ⟨fun inhibited => ?_, fun enabled => ?_⟩
    · rw [PointRecord.baseAppearance_alarm kind, if_pos inhibited]
    · have shows {a : AlarmState} : r.alarm = some a → r.baseAppearance i = a.appearance :=
        PointRecord.baseAppearance_enabled kind enabled
      exact ⟨shows, shows, shows, shows⟩
  · rw [PointRecord.baseAppearance_band kind, effective]
    exact ⟨fun lit => if_pos (decide_eq_true lit), fun dark => if_neg (by simpa using dark)⟩
  · rw [State.appearance_owned owner point]
    refine ⟨congrArg (Quality.shows _), fun i n nodup place number => ?_⟩
    rw [← number, findIdx_lamp nodup place]
    have shown {q : Quality} : s.supervision.quality r = q → _ = q.shows (r.baseAppearance i) :=
      congrArg (Quality.shows (r.baseAppearance i))
    exact ⟨shown, fun current => current.elim shown shown⟩

end Sys2Proof.Machine

/-!
PROOFS. The Image Composer: requests and arbitration (O41), what a pass composes and its completion (O42).
-/

namespace Sys2Proof.Machine

/-! ## Arbitration (R84) -/

theorem eq_or_eq_otherLoop (l m : Loop) : m = l ∨ m = otherLoop l := by
  cases l <;> cases m <;> simp [otherLoop]

theorem otherLoop_otherLoop (l : Loop) : otherLoop (otherLoop l) = l := by
  cases l <;> rfl

theorem otherLoop_ne (l : Loop) : otherLoop l ≠ l := by
  cases l <;> decide

/-- Neither loop's request is WAITING. -/
def Composer.Unasked (c : Composer) : Prop :=
  c.requestA ≠ .waiting ∧ c.requestB ≠ .waiting

theorem Composer.Unasked.request {c : Composer} (h : c.Unasked) (l : Loop) : c.request l ≠ .waiting := by
  cases l with
  | a => exact h.1
  | b => exact h.2

theorem Composer.arbitrate_unasked {c : Composer} (h : c.Unasked) : c.arbitrate = none := by
  obtain ⟨a, b⟩ := h
  unfold Composer.arbitrate
  split
  · contradiction
  · contradiction
  · contradiction
  · rfl

/-- With a WAITING loop, arbitration gives that loop, or the one not served last if both are WAITING. -/
theorem Composer.arbitrate_of_waiting {c : Composer} {l : Loop} (waiting : c.request l = .waiting) :
    c.arbitrate = some (if c.request (otherLoop l) = .waiting then otherLoop c.lastServed else l) := by
  cases l with
  | a =>
    have a : c.requestA = .waiting := waiting
    cases b : c.requestB <;> simp [Composer.arbitrate, Composer.request, otherLoop, a, b]
  | b =>
    have b : c.requestB = .waiting := waiting
    cases a : c.requestA <;> simp [Composer.arbitrate, Composer.request, otherLoop, a, b]

theorem Composer.arbitrate_of_due {c : Composer} {l : Loop} (waiting : c.request l = .waiting)
    (due : c.request (otherLoop l) ≠ .waiting ∨ c.lastServed = otherLoop l) : c.arbitrate = some l := by
  rw [Composer.arbitrate_of_waiting waiting]
  rcases due with only | last
  · rw [if_neg only]
  · rw [last, otherLoop_otherLoop, ite_self]

theorem Composer.next_unasked {c : Composer} (h : c.Unasked) : c.next = none := by
  unfold Composer.next
  split
  · rw [if_neg (h.request _), Composer.arbitrate_unasked h]
  · exact Composer.arbitrate_unasked h

theorem Composer.next_of_elected {c : Composer} {l : Loop} (waiting : c.request l = .waiting)
    (elected : c.elected = some l) : c.next = some l := by
  simp [Composer.next, elected, waiting]

theorem Composer.next_of_unelected {c : Composer} (unelected : c.elected = none) : c.next = c.arbitrate := by
  simp [Composer.next, unelected]

/-- The only WAITING loop is next, whichever loop stands elected. -/
theorem Composer.next_of_only {c : Composer} {l : Loop} (waiting : c.request l = .waiting)
    (only : c.request (otherLoop l) ≠ .waiting) : c.next = some l := by
  have arbitrated := Composer.arbitrate_of_due waiting (.inl only)
  unfold Composer.next
  split
  · next m _ =>
    rcases eq_or_eq_otherLoop l m with rfl | rfl
    · exact if_pos waiting
    · rw [if_neg only, arbitrated]
  · exact arbitrated

/-! ## The start of a pass (R84, R86) -/

theorem exec_passStart {s : State} (running : s.inReset = false) : exec .passStart s = .next s.startPass :=
  State.takes_of_running running State.startPass

theorem State.startPass_of_next {s : State} {l : Loop} (idle : s.composer.pass = none)
    (next : s.composer.next = some l) : s.startPass = s.beginPass l := by
  simp [State.startPass, State.passDue, idle, next]

theorem State.passDue_composing {s : State} (composing : s.composer.pass ≠ none) : s.passDue = false := by
  simp [State.passDue, composing]

theorem State.passDue_unasked {s : State} (unasked : s.composer.Unasked) : s.passDue = false := by
  simp [State.passDue, Composer.next_unasked unasked]

/-! ## Requests made, withdrawn and discarded (R83, R85) -/

theorem Composer.request_elected (c : Composer) (l : Loop) (e : Option Loop) :
    ({ c with elected := e } : Composer).request l = c.request l := by
  cases l <;> rfl

theorem Composer.ask_of_outstanding {c : Composer} {l : Loop} (outstanding : c.request l ≠ .none) : c.ask l = c :=
  if_neg outstanding

theorem Composer.ask_of_none {c : Composer} {l : Loop} (free : c.request l = .none) :
    c.ask l =
      { c.withRequest l .waiting with
        elected := if c.pass.isNone ∧ c.elected.isNone then some l else c.elected } :=
  if_pos free

theorem Composer.withdraw_of_not_waiting {c : Composer} {l : Loop} (other : c.request l ≠ .waiting) :
    c.withdraw l = c :=
  if_neg other

/-- A withdrawal takes the request back and may fix another pass as the next. -/
theorem Composer.withdraw_of_waiting {c : Composer} {l : Loop} (waiting : c.request l = .waiting) :
    ∃ e, c.withdraw l = { c.withRequest l .none with elected := e } :=
  ⟨_, if_pos waiting⟩

theorem Composer.drop_of_inFlight {c : Composer} {l : Loop} (inFlight : c.request l = .inFlight) :
    c.drop l = { c.withRequest l .none with pass := c.pass.map fun p => { p with discarded := true } } :=
  if_pos inFlight

theorem Composer.drop_of_not_inFlight {c : Composer} {l : Loop} (other : c.request l ≠ .inFlight) :
    c.drop l = c.withdraw l :=
  if_neg other

/-- What a request replaced leaves, whatever loop is then elected. -/
theorem Composer.withRequest_elected_frame (c : Composer) (l : Loop) (q : ComposeRequest) (e : Option Loop) :
    let d : Composer := { c.withRequest l q with elected := e }
    d.request l = q ∧ d.request (otherLoop l) = c.request (otherLoop l) ∧ d.pass = c.pass ∧
      d.lastServed = c.lastServed := by
  refine ⟨?_, ?_, Composer.withRequest_pass c l q, Composer.withRequest_lastServed c l q⟩
  · rw [Composer.request_elected, Composer.request_withRequest]
  · rw [Composer.request_elected, Composer.request_withRequest_other c l _ q (otherLoop_ne l)]

/-- Settles O41: the next pass by the cases of R84, and the three moves of a request. -/
theorem passesAreArbitrated : Obligations.PassesAreArbitrated := by
  refine ⟨fun s running => ⟨fun undue => ?_, fun l idle waiting due => ?_⟩,
    fun c l => ⟨Composer.ask_of_outstanding, fun free => ?_, Composer.withdraw_of_not_waiting, fun waiting => ?_,
      fun free => ?_, Composer.drop_of_inFlight⟩⟩
  · have undue : s.passDue = false := undue.elim State.passDue_composing State.passDue_unasked
    rw [exec_passStart running, State.startPass_undue undue]
  · have next : s.composer.next = some l := by
      rcases due with only | elected | ⟨unelected, last⟩
      · exact Composer.next_of_only waiting only
      · exact Composer.next_of_elected waiting elected
      · rw [Composer.next_of_unelected unelected]
        exact Composer.arbitrate_of_due waiting (.inr last)
    rw [exec_passStart running, State.startPass_of_next idle next]
    rfl
  · rw [Composer.ask_of_none free]
    obtain ⟨own, other, pass, last⟩ := c.withRequest_elected_frame l .waiting _
    refine ⟨own, other, pass, last, fun idle unelected => ?_⟩
    simp [idle, unelected]
  · obtain ⟨e, withdrawn⟩ := Composer.withdraw_of_waiting waiting
    have drops : c.drop l = c.withdraw l := Composer.drop_of_not_inFlight (by simp [waiting])
    rw [drops, withdrawn]
    obtain ⟨own, other, pass, last⟩ := c.withRequest_elected_frame l .none e
    exact ⟨own, other, pass, last, rfl⟩
  · rw [Composer.drop_of_not_inFlight (by simp [free]), Composer.withdraw_of_not_waiting (by simp [free])]

/-! ## What a pass composes (R87, R98) -/

/-- A pass brought to place `k` gives the lamps from its position up to `k` their flags from the part as it stands, and
leaves every other flag. -/
theorem State.composeTo_flag (s : State) (p : Pass) (k : Nat) (slot : Fin 32) (o : Fin 64) :
    ((s.composeTo p k).flags.get slot).getLsbD o.val =
      if p.position ≤ slot.val * 64 + o.val ∧ slot.val * 64 + o.val < k then
        p.flagOf (s.appearance p.lampTest (loopIndex p.loop * 2048 + slot.val * 64 + o.val))
      else (p.flags.get slot).getLsbD o.val := by
  have number : lampNumber p.loop 0 (slot.val * 64 + o.val) = loopIndex p.loop * 2048 + slot.val * 64 + o.val := by
    rw [lampNumber]
    omega
  simp only [State.composeTo, Bank.get_make, BitVec.getLsbD_ofFnLE, State.lampFlag, number, o.isLt, dif_pos]

/-- A pass brought to its end has composed every lamp: those before its position earlier, all others now. -/
theorem State.composeTo_end_flag (s : State) (p : Pass) (slot : Fin 32) (o : Fin 64) :
    ((s.composeTo p 2048).flags.get slot).getLsbD o.val =
      if slot.val * 64 + o.val < p.position then (p.flags.get slot).getLsbD o.val
      else p.flagOf (s.appearance p.lampTest (loopIndex p.loop * 2048 + slot.val * 64 + o.val)) := by
  rw [State.composeTo_flag]
  by_cases earlier : slot.val * 64 + o.val < p.position
  · rw [if_neg (by omega), if_pos earlier]
  · rw [if_pos (by omega), if_neg earlier]

theorem State.catchUp_idle {s : State} (idle : s.composer.pass = none) : s.catchUp = s := by
  simp [State.catchUp, idle]

theorem State.catchUp_composing {s : State} {p : Pass} (composing : s.composer.pass = some p) :
    s.catchUp =
      { s with
        composer :=
          { s.composer with pass := some (s.composeTo p (min 2048 (p.position + Config.passProgress s.freeIndex))) }
        freeIndex := s.freeIndex + 1 } := by
  simp [State.catchUp, composing]

/-! ## The completion of a pass (R84, R88) -/

/-- The composer with the request of a pass ended, if the pass is not discarded. -/
def Composer.served (c : Composer) (p : Pass) : Composer :=
  if p.discarded then c else c.withRequest p.loop .none

/-- A completion whether discarded or not, the composer's part through `Composer.served`. -/
theorem State.completePass_eq (s : State) (p : Pass) :
    s.completePass p =
      { s.withLoop p.loop
          { s.loop p.loop with
            back :=
              ⟨(s.composeTo p 2048).flags, if p.discarded then (s.loop p.loop).back.intensity else p.intensity⟩
            backComplete := if p.discarded then (s.loop p.loop).backComplete else true } with
        composer :=
          { s.composer.served p with pass := none, elected := (s.composer.served p).arbitrate } } := by
  unfold State.completePass Composer.served
  cases p.discarded <;> rfl

theorem exec_passCompletion {s : State} (attends : s.attends = true) : exec .passCompletion s = .next s.endPass :=
  State.takesAfterDue_of_attends attends State.endPass

theorem State.endPass_idle {s : State} (idle : s.composer.pass = none) : s.endPass = s := by
  simp [State.endPass, idle]

theorem State.endPass_composing {s : State} {p : Pass} (composing : s.composer.pass = some p) :
    s.endPass = s.completePass p := by
  simp [State.endPass, composing]

/-- Settles O42: a completion brings the pass to its last lamp and arbitrates; a change brings it as far as the free
value says. -/
theorem passesComposeEveryLamp : Obligations.PassesComposeEveryLamp := by
  refine ⟨fun s attends => ⟨fun idle => ?_, fun p composing => ?_⟩,
    fun s => ⟨State.catchUp_idle, fun p composing => ?_⟩⟩
  · rw [exec_passCompletion attends, State.endPass_idle idle]
  · refine ⟨(s.composeTo p 2048).flags, (s.composer.served p).arbitrate, s.composeTo_end_flag p,
      fun a b => Composer.arbitrate_unasked ⟨a, b⟩, fun l => Composer.arbitrate_of_due, ?_⟩
    rw [exec_passCompletion attends, State.endPass_composing composing, State.completePass_eq]
    rfl
  · exact ⟨(s.composeTo p (min 2048 (p.position + Config.passProgress s.freeIndex))).flags,
      s.composeTo_flag p _, State.catchUp_composing composing⟩

end Sys2Proof.Machine

/-!
PROOFS. The records of the part: the tiles, the proving records, the supervision records, the composer's claims, the
desk's filters and the generators, and that every single change of one of them keeps its law.
-/

namespace Sys2Proof.Machine

/-! ## Tiles (R103, R107, R112, Table 6-4) -/

/-- A state in which a tile is awaited or answers: neither DISABLED nor ABSENT. -/
def TileState.Joined (x : TileState) : Prop :=
  x = .joining ∨ x = .present ∨ x = .mismatched

/-- A joined tile moves by the size of a valid reply, and counts a miss otherwise (Table 6-4). -/
theorem Tile.slotMove_joined {t : Tile} (h : t.state.Joined) :
    (∀ right, t.slotMove (some right) =
      { t with state := if right then .present else .mismatched, missStreak := 0 }) ∧
    t.slotMove none = t.missed := by
  unfold Tile.slotMove
  rcases h with h | h | h <;> rw [h] <;> exact ⟨fun _ => rfl, rfl⟩

/-- An ABSENT tile counts its valid replies (Table 6-4). -/
theorem Tile.slotMove_absent {t : Tile} (h : t.state = .absent) :
    (∀ right, t.slotMove (some right) = t.answered right) ∧ t.slotMove none = { t with replyStreak := 0 } := by
  unfold Tile.slotMove
  rw [h]
  exact ⟨fun _ => rfl, rfl⟩

theorem Tile.slotMove_disabled {t : Tile} (h : t.state = .disabled) (reply : Option Bool) :
    t.slotMove reply = t := by
  unfold Tile.slotMove
  rw [h]

theorem TileState.joined_cases (x : TileState) : x.Joined ∨ x = .absent ∨ x = .disabled := by
  cases x <;> simp [TileState.Joined]

theorem TileState.Joined.counts {x : TileState} (h : x.Joined) : x ≠ .absent ∧ ¬ (x = .absent ∨ x = .disabled) := by
  rcases h with rfl | rfl | rfl <;> simp

theorem Tile.Lawful.missed {t : Tile} (h : t.Lawful) (joined : t.state.Joined) : t.missed.Lawful := by
  obtain ⟨miss, reply, noReply, -⟩ := h
  obtain ⟨notAbsent, counts⟩ := joined.counts
  unfold Tile.missed
  split
  · exact ⟨Nat.zero_le 2, reply, fun absent => absurd rfl absent, fun _ => rfl⟩
  · exact ⟨show t.missStreak + 1 ≤ 2 by omega, reply, noReply, fun gone => absurd gone counts⟩

theorem Tile.Lawful.answered {t : Tile} (h : t.Lawful) (absent : t.state = .absent) (right : Bool) :
    (t.answered right).Lawful := by
  obtain ⟨miss, reply, -, noMiss⟩ := h
  unfold Tile.answered
  split
  · exact ⟨miss, Nat.zero_le 2, fun _ => rfl, fun _ => noMiss (.inl absent)⟩
  · exact ⟨miss, show t.replyStreak + 1 ≤ 2 by omega, fun there => absurd absent there, noMiss⟩

theorem Tile.Lawful.slotMove {t : Tile} (h : t.Lawful) (reply : Option Bool) : (t.slotMove reply).Lawful := by
  rcases t.state.joined_cases with joined | absent | disabled
  · obtain ⟨moves, misses⟩ := Tile.slotMove_joined joined
    cases reply with
    | none => rw [misses]; exact h.missed joined
    | some right =>
      obtain ⟨-, reply, noReply, -⟩ := h
      rw [moves]
      exact ⟨Nat.zero_le 2, reply, fun _ => noReply joined.counts.1, fun _ => rfl⟩
  · obtain ⟨answers, resets⟩ := Tile.slotMove_absent absent
    cases reply with
    | none =>
      obtain ⟨miss, -, -, noMiss⟩ := h
      rw [resets]
      exact ⟨miss, Nat.zero_le 2, fun _ => rfl, noMiss⟩
    | some right => rw [answers]; exact h.answered absent right
  · rw [Tile.slotMove_disabled disabled]; exact h

theorem Tile.Lawful.afterSlot {t : Tile} (h : t.Lawful) (reply : Option TileReply) (latched : Option TileSize) :
    (t.afterSlot reply latched).Lawful := by
  cases reply with
  | none => exact h.slotMove none
  | some w => exact h.slotMove (some (w.rightSize latched))

/-- A tile record whose streaks are cleared is lawful in any state. -/
theorem Tile.cleared_lawful (t : Tile) (state : TileState) : (t.cleared state).Lawful :=
  ⟨Nat.zero_le 2, Nat.zero_le 2, fun _ => rfl, fun _ => rfl⟩

theorem Tile.Lawful.latched {t : Tile} (h : t.Lawful) : t.latched.Lawful := by
  unfold Tile.latched
  split
  · split
    · next disabled =>
      obtain ⟨miss, reply, noReply, -⟩ := h
      exact ⟨miss, reply, fun _ => noReply (by simp [disabled]), by simp⟩
    · exact h
  · split
    · exact h
    · exact t.cleared_lawful .disabled

/-- The tile records of a loop are lawful. -/
def TilesLawful (tiles : Bank 32 Tile) : Prop :=
  ∀ slot, (tiles.get slot).Lawful

theorem TilesLawful.map {tiles : Bank 32 Tile} {f : Tile → Tile} (h : ∀ slot, (f (tiles.get slot)).Lawful) :
    TilesLawful (tiles.map f) := by
  intro slot
  rw [Bank.get_map]
  exact h slot

theorem TilesLawful.put {tiles : Bank 32 Tile} (h : TilesLawful tiles) (slot : Fin 32) {t : Tile} (new : t.Lawful) :
    TilesLawful (tiles.put slot t) := by
  intro n
  rw [Bank.get_put]
  split
  · exact new
  · exact h n

/-! ## Proving records (R125 to R131, Table 7-6) -/

/-- Every proving record is lawful. -/
def ProvingLawful (t : Sparse ProvingRecord) : Prop :=
  ∀ lamp, (provingOf t lamp).Lawful

theorem ProvingRecord.initial_lawful : ProvingRecord.initial.Lawful := by
  simp [ProvingRecord.initial, ProvingRecord.Lawful]

theorem provingLawful_empty : ProvingLawful Sparse.empty :=
  fun _ => ProvingRecord.initial_lawful

theorem provingOf_putProving (t : Sparse ProvingRecord) (lamp n : Nat) (r : ProvingRecord) :
    provingOf (putProving t lamp r) n = if lamp = n then r else provingOf t n := by
  unfold putProving provingOf
  split
  · next reset =>
    rw [Sparse.get?_erase]
    split
    · exact reset.symm
    · rfl
  · rw [Sparse.get?_put]
    split <;> rfl

theorem ProvingRecord.good_lawful : ProvingRecord.Lawful ⟨.good, 0, none⟩ := by
  simp [ProvingRecord.Lawful]

theorem ProvingRecord.Lawful.faultStep {r : ProvingRecord} (h : r.Lawful)
    (counts : r.verdict = .unproven ∨ r.verdict = .good) (k : FaultKind) : (r.faultStep k).Lawful := by
  obtain ⟨streak, -⟩ := h
  unfold ProvingRecord.faultStep
  dsimp only
  generalize next : (if r.kind = some k then r.streak + 1 else 1) = n
  have small : 1 ≤ n ∧ n ≤ 3 := by split at next <;> omega
  split
  · cases k <;> simp [ProvingRecord.Lawful, FaultKind.verdict]
  · exact ⟨show n ≤ 2 by omega, iff_of_true rfl ⟨counts, show 0 < n by omega⟩⟩

/-- Under DARK or LIT a lawful record has no streak kind, so any streak below 3 is lawful. -/
theorem ProvingRecord.Lawful.withStreak {r : ProvingRecord} (h : r.Lawful)
    (faulty : r.verdict = .dark ∨ r.verdict = .lit) {n : Nat} (small : n ≤ 2) :
    ProvingRecord.Lawful { r with streak := n } := by
  obtain ⟨-, kind⟩ := h
  have uncounted : ¬ (r.verdict = .unproven ∨ r.verdict = .good) := by rcases faulty with e | e <;> simp [e]
  exact ⟨small, iff_of_false (fun some => uncounted (kind.mp some).1) fun counts => uncounted counts.1⟩

theorem ProvingRecord.Lawful.recoveryStep {r : ProvingRecord} (h : r.Lawful)
    (faulty : r.verdict = .dark ∨ r.verdict = .lit) : r.recoveryStep.Lawful := by
  have streak := h.1
  unfold ProvingRecord.recoveryStep
  split
  · exact good_lawful
  · exact h.withStreak faulty (by omega)

theorem ProvingRecord.Lawful.observe {r : ProvingRecord} (h : r.Lawful) (o : Observation) : (r.observe o).Lawful := by
  unfold ProvingRecord.observe
  split
  case h_1 | h_5 | h_6 => exact good_lawful
  case h_2 | h_10 | h_12 | h_13 | h_15 => exact h
  case h_3 | h_4 => next v => exact h.faultStep (.inl v) _
  case h_7 | h_8 => next v => exact h.faultStep (.inr v) _
  case h_9 => next v => exact h.recoveryStep (.inl v)
  case h_14 => next v => exact h.recoveryStep (.inr v)
  case h_11 => next v => exact h.withStreak (.inl v) (Nat.zero_le 2)
  case h_16 => next v => exact h.withStreak (.inr v) (Nat.zero_le 2)

theorem ProvingLawful.put {t : Sparse ProvingRecord} (h : ProvingLawful t) (lamp : Nat) {r : ProvingRecord}
    (new : r.Lawful) : ProvingLawful (putProving t lamp r) := by
  intro n
  rw [provingOf_putProving]
  split
  · exact new
  · exact h n

/-- A comparison keeps the proving records lawful. -/
theorem ProvingLawful.moved {t : Sparse ProvingRecord} (h : ProvingLawful t) (r : SlotReport) (sense : Flags) :
    ProvingLawful (r.moved sense t) := by
  have fold : ∀ (os : List (Fin 64)) (u : Sparse ProvingRecord), ProvingLawful u →
      ProvingLawful (os.foldl (fun u o => putProving u (r.lamp o.val) (r.observed sense t o)) u) := by
    intro os
    induction os with
    | nil => exact fun _ hu => hu
    | cons o rest ih => exact fun u hu => ih _ (hu.put _ ((h _).observe _))
  exact fold r.outputs t h

/-! ## Supervision records (R139 to R146, Tables 8-2 and 8-4) -/

@[simp] theorem Timer.runs_tick (t : Timer) : t.tick.runs = t.runs := by
  cases t with
  | stopped => rfl
  | counting n =>
    show (if n ≤ 1 then Timer.expired else .counting (n - 1)).runs = true
    split <;> rfl
  | expired => rfl

/-- A link record whose countdown has been loaded is lawful. -/
theorem LinkRecord.loaded_lawful {r : LinkRecord} (off : r.mode = .off → r.state = .healthy) : r.loaded.Lawful := by
  refine ⟨?_, off⟩
  unfold LinkRecord.loaded
  dsimp only
  split
  · next watched => exact iff_of_true rfl watched
  · next unwatched => exact iff_of_false Bool.false_ne_true unwatched

theorem LinkRecord.Lawful.tick {r : LinkRecord} (h : r.Lawful) :
    LinkRecord.Lawful { r with countdown := r.countdown.tick } := by
  simpa [LinkRecord.Lawful] using h

/-- The expiry of a running countdown leaves the state LOST. -/
theorem LinkRecord.Lawful.expire {r : LinkRecord} (h : r.Lawful) (due : r.countdown = .expired) :
    LinkRecord.Lawful { r with state := .lost, countdown := .stopped 0 } := by
  obtain ⟨runs, -⟩ := h
  obtain ⟨watched, -⟩ := runs.mp (by rw [due]; rfl)
  exact ⟨by simp [Timer.runs], fun off => absurd off watched⟩

theorem LinkRecord.Lawful.set {r : LinkRecord} (h : r.Lawful) (mode : LinkMode) (period : Nat) :
    (r.set mode period).Lawful := by
  unfold LinkRecord.set
  dsimp only
  split
  · exact h
  · split
    · exact LinkRecord.loaded_lawful fun off => if_pos off
    · next kept =>
      obtain ⟨-, stays, stayed⟩ := not_or.mp kept |>.imp_right not_or.mp
      obtain ⟨runs, -⟩ := h
      refine ⟨?_, fun off => absurd off stays⟩
      simpa [stays, stayed] using runs

theorem Outstation.withPeriod_lawful (o : Outstation) (period : Nat) : (o.withPeriod period).Lawful := by
  unfold Outstation.withPeriod
  split
  · simp [Outstation.Lawful, Timer.runs]
  · next supervised => split <;> simp [Outstation.Lawful, Timer.runs, supervised]

theorem Outstation.Lawful.tick {o : Outstation} (h : o.Lawful) :
    Outstation.Lawful { o with countdown := o.countdown.tick } := by
  simpa [Outstation.Lawful] using h

theorem Outstation.Lawful.supervised {o : Outstation} (h : o.Lawful) (state : o.state ≠ .unsupervised) :
    o.period ≠ 0 :=
  fun zero => state (h.1.mpr zero)

/-- A supervised outstation is refreshed, its countdown counting. -/
theorem Outstation.Lawful.refreshed {o : Outstation} (h : o.Lawful) (state : o.state ≠ .unsupervised) (n : Nat) :
    Outstation.Lawful { o with state := .healthy, countdown := .counting n } := by
  simp [Outstation.Lawful, Timer.runs, h.supervised state]

/-- The expiry of a running countdown leaves the outstation FAILED. -/
theorem Outstation.Lawful.expire {o : Outstation} (h : o.Lawful) (due : o.countdown = .expired) :
    Outstation.Lawful { o with state := .failed, countdown := .stopped 0 } := by
  have healthy : o.state = .healthy := h.2.mp (by rw [due]; rfl)
  simp [Outstation.Lawful, Timer.runs, h.supervised (by simp [healthy])]

theorem SupervisionUnit.Lawful.withOutstation {u : SupervisionUnit} (h : u.Lawful) (n : Fin 128) {o : Outstation}
    (new : o.Lawful) : SupervisionUnit.Lawful { u with outstations := u.outstations.put n o } := by
  refine ⟨h.1, fun m => ?_⟩
  dsimp only
  rw [Bank.get_put]
  split
  · exact new
  · exact h.2 m

theorem SupervisionUnit.Lawful.tick {u : SupervisionUnit} (h : u.Lawful) : u.tick.Lawful := by
  refine ⟨h.1.tick, fun n => ?_⟩
  simp only [SupervisionUnit.tick, Bank.get_map]
  exact (h.2 n).tick

theorem SupervisionUnit.afterSoftwareReset_lawful (u : SupervisionUnit) : u.afterSoftwareReset.Lawful := by
  refine ⟨LinkRecord.loaded_lawful fun _ => rfl, fun n => ?_⟩
  simp only [SupervisionUnit.afterSoftwareReset, Bank.get_map]
  exact Outstation.withPeriod_lawful _ _

theorem SupervisionUnit.initial_lawful (auto : Bool) : (SupervisionUnit.initial auto).Lawful := by
  refine ⟨?_, fun n => ?_⟩
  · cases auto <;> simp [SupervisionUnit.initial, LinkRecord.Lawful, Timer.runs]
  · simp [SupervisionUnit.initial, Outstation.initial, Outstation.Lawful, Timer.runs]

/-! ## The composer's claims (R82 to R85) -/

/-- A pass for the loop that has not been discarded is in flight. -/
def Composer.Claims (c : Composer) (l : Loop) : Prop :=
  ∃ p, c.pass = some p ∧ p.loop = l ∧ p.discarded = false

theorem Composer.lawful_iff (c : Composer) : c.Lawful ↔ ∀ l, c.request l = .inFlight ↔ c.Claims l := Iff.rfl

theorem Composer.not_claims_idle {c : Composer} (idle : c.pass = none) (l : Loop) : ¬ c.Claims l := by
  rintro ⟨p, composing, -⟩
  rw [idle] at composing
  cases composing

/-- The claim belongs to one loop. -/
theorem Composer.Claims.unique {c : Composer} {l m : Loop} (h : c.Claims l) (k : c.Claims m) : m = l := by
  obtain ⟨p, composing, rfl, -⟩ := h
  obtain ⟨q, again, rfl, -⟩ := k
  cases composing.symm.trans again
  rfl

/-- A change that leaves the claims and which requests are IN_FLIGHT keeps the law. -/
theorem Composer.Lawful.congr {c d : Composer} (h : c.Lawful)
    (requests : ∀ l, d.request l = .inFlight ↔ c.request l = .inFlight) (claims : ∀ l, d.Claims l ↔ c.Claims l) :
    d.Lawful :=
  fun l => (requests l).trans ((h l).trans (claims l).symm)

/-- A request that is not IN_FLIGHT gives way to one that is not. -/
theorem Composer.Lawful.withRequest {c : Composer} (h : c.Lawful) {l : Loop} (old : c.request l ≠ .inFlight)
    {q : ComposeRequest} (new : q ≠ .inFlight) (e : Option Loop) :
    Composer.Lawful { c.withRequest l q with elected := e } := by
  obtain ⟨own, other, -⟩ := c.withRequest_elected_frame l q e
  refine h.congr (fun m => ?_) fun m => by simp only [Composer.Claims, Composer.withRequest_pass]
  rcases eq_or_eq_otherLoop l m with rfl | rfl
  · rw [own]
    exact iff_of_false new old
  · rw [other]

theorem Composer.Lawful.ask {c : Composer} (h : c.Lawful) (l : Loop) : (c.ask l).Lawful := by
  by_cases free : c.request l = .none
  · rw [Composer.ask_of_none free]
    exact h.withRequest (by simp [free]) (by simp) _
  · rw [Composer.ask_of_outstanding free]
    exact h

theorem Composer.Lawful.withdraw {c : Composer} (h : c.Lawful) (l : Loop) : (c.withdraw l).Lawful := by
  by_cases waiting : c.request l = .waiting
  · obtain ⟨e, withdrawn⟩ := Composer.withdraw_of_waiting waiting
    rw [withdrawn]
    exact h.withRequest (by simp [waiting]) (by simp) e
  · rw [Composer.withdraw_of_not_waiting waiting]
    exact h

/-- A composer in which no pass claims a loop is lawful when no request is IN_FLIGHT. -/
theorem Composer.lawful_of_unclaimed {c : Composer} (requests : ∀ l, c.request l ≠ .inFlight)
    (claims : ∀ l, ¬ c.Claims l) : c.Lawful :=
  fun l => iff_of_false (requests l) (claims l)

theorem Composer.initial_lawful : Composer.initial.Lawful :=
  Composer.lawful_of_unclaimed (fun l => by cases l <;> decide) (Composer.not_claims_idle rfl)

/-- With the IN_FLIGHT request of a loop ended, no request is IN_FLIGHT: the pass in flight claims one loop alone. -/
theorem Composer.Lawful.request_ended {c : Composer} (h : c.Lawful) {l : Loop} (claims : c.Claims l) (m : Loop) :
    (c.withRequest l .none).request m ≠ .inFlight := by
  rcases eq_or_eq_otherLoop l m with rfl | rfl
  · simp
  · rw [Composer.request_withRequest_other _ _ _ _ (otherLoop_ne l)]
    exact fun inFlight => otherLoop_ne l (claims.unique ((h _).mp inFlight))

theorem Composer.Lawful.drop {c : Composer} (h : c.Lawful) (l : Loop) : (c.drop l).Lawful := by
  by_cases inFlight : c.request l = .inFlight
  · rw [Composer.drop_of_inFlight inFlight]
    refine Composer.lawful_of_unclaimed (fun m => ?_) fun m => ?_
    · have ended := h.request_ended ((h l).mp inFlight) m
      cases m <;> exact ended
    · rintro ⟨p, composing, -, kept⟩
      obtain ⟨q, -, rfl⟩ := Option.map_eq_some_iff.mp composing
      cases kept
  · rw [Composer.drop_of_not_inFlight inFlight]
    exact h.withdraw l

/-- The start of a pass gives its loop the claim and the IN_FLIGHT request. -/
theorem Composer.Lawful.begin {c : Composer} (h : c.Lawful) (idle : c.pass = none) (p : Pass)
    (kept : p.discarded = false) (last : Loop) (e : Option Loop) :
    Composer.Lawful { c.withRequest p.loop .inFlight with pass := some p, lastServed := last, elected := e } := by
  intro m
  rcases eq_or_eq_otherLoop p.loop m with rfl | rfl
  · refine iff_of_true ?_ ⟨p, rfl, rfl, kept⟩
    cases p.loop <;> rfl
  · refine iff_of_false ?_ ?_
    · have other : c.request (otherLoop p.loop) ≠ .inFlight :=
        fun inFlight => Composer.not_claims_idle idle _ ((h _).mp inFlight)
      cases l : p.loop <;> rw [l] at other <;> exact other
    · rintro ⟨q, composing, loop, -⟩
      cases composing
      exact otherLoop_ne _ loop.symm

/-- The completion of the pass in flight leaves no request IN_FLIGHT. -/
theorem Composer.Lawful.complete {c : Composer} (h : c.Lawful) {p : Pass} (composing : c.pass = some p)
    (e : Option Loop) : Composer.Lawful { c.served p with pass := none, elected := e } := by
  refine Composer.lawful_of_unclaimed (fun m => ?_) (Composer.not_claims_idle rfl)
  have ended : (c.served p).request m ≠ .inFlight := by
    unfold Composer.served
    cases kept : p.discarded
    · exact h.request_ended ⟨p, composing, rfl, kept⟩ m
    · intro inFlight
      obtain ⟨q, again, -, keptToo⟩ := (h m).mp inFlight
      cases composing.symm.trans again
      rw [kept] at keptToo
      cases keptToo
  cases m <;> exact ended

/-! ## The queue (R178) -/

theorem LinkInterface.QueueBounded.offerItem {l : LinkInterface} (h : l.QueueBounded) (item : QueueItem) :
    (l.offerItem item).QueueBounded := by
  unfold LinkInterface.offerItem
  split
  · next room =>
    show (l.queue ++ [item]).length ≤ Config.queueCapacity
    rw [List.length_append]
    exact room
  · exact h

theorem LinkInterface.QueueBounded.takeLength {l : LinkInterface} (h : l.QueueBounded) (b : Byte) :
    (l.takeLength b).QueueBounded := by
  unfold LinkInterface.takeLength
  split
  · exact h
  · dsimp only
    split
    · exact h
    · exact LinkInterface.QueueBounded.offerItem (l := l.hunting) h _

/-! ## The desk (R51 to R54, R61, R62) -/

theorem Filter.Lawful.step {α : Type} [DecidableEq α] {f : Filter α} (h : f.Lawful) (x : α) : (f.step x).Lawful := by
  by_cases level : x = f.level
  · rw [level, Filter.step_level]
    simp [Filter.Lawful]
  · by_cases again : f.candidate = some x
    · have count := h.1
      rw [Filter.step_of_candidate level again]
      split
      · simp [Filter.Lawful]
      · exact ⟨show f.count + 1 ≤ 2 by omega, iff_of_true rfl f.count.succ_pos, fun e => level (Option.some.inj e)⟩
    · rw [Filter.step_of_new level again]
      exact ⟨show 1 ≤ 2 by decide, iff_of_true rfl Nat.one_pos, fun e => level (Option.some.inj e)⟩

theorem Filter.initial_lawful {α : Type} (level : α) : (Filter.initial level).Lawful := by
  simp [Filter.initial, Filter.Lawful]

theorem DeskUnit.Lawful.sampled {d : DeskUnit} (h : d.Lawful) (pins : DeskPins) : (d.sampled pins).Lawful := by
  obtain ⟨ack, silence, lampTest, allSections, selector, period⟩ := h
  exact ⟨ack.step _, silence.step _, lampTest.step _, allSections.step _, selector.step _, period⟩

theorem DeskUnit.Lawful.withPeriod {d : DeskUnit} (h : d.Lawful) {period : Nat}
    (range : period = 1 ∨ period = 4 ∨ period = 16) : (d.withPeriod period).Lawful := by
  unfold DeskUnit.withPeriod
  split
  · exact h
  · exact ⟨Filter.initial_lawful _, Filter.initial_lawful _, Filter.initial_lawful _, Filter.initial_lawful _,
      Filter.initial_lawful _, range⟩

theorem DeskUnit.initial_lawful (enabled : Bool) {period : Nat} (pins : DeskPins)
    (range : period = 1 ∨ period = 4 ∨ period = 16) : (DeskUnit.initial enabled period pins).Lawful :=
  ⟨Filter.initial_lawful _, Filter.initial_lawful _, Filter.initial_lawful _, Filter.initial_lawful _,
    Filter.initial_lawful _, range⟩

/-! ## The generators (R70 to R79) -/

/-- The generators of the Cadence Unit are lawful. -/
def CadenceUnit.Lawful (c : CadenceUnit) : Prop :=
  ∀ g, (c.generator g).Lawful

theorem CadenceUnit.Lawful.withGenerator {c : CadenceUnit} (h : c.Lawful) (g : Generator) {x : CadenceGenerator}
    (new : x.Lawful) : (c.withGenerator g x).Lawful := by
  intro k
  by_cases same : k = g
  · rw [same, CadenceUnit.generator_withGenerator]
    exact new
  · rw [CadenceUnit.generator_withGenerator_other _ _ _ _ same]
    exact h k

/-- A generator with the reload values of a lawful one is lawful when it is RUNNING or LIT. -/
theorem CadenceGenerator.Lawful.of_reloads {x y : CadenceGenerator} (h : x.Lawful)
    (prescale : y.prescaleReload = x.prescaleReload) (lit : y.litReload = x.litReload)
    (dark : y.darkReload = x.darkReload) (phase : y.running = false → y.phase = .lit) : y.Lawful := by
  obtain ⟨p1, p256, l1, l255, d1, d255, -⟩ := h
  exact ⟨prescale ▸ p1, prescale ▸ p256, lit ▸ l1, lit ▸ l255, dark ▸ d1, dark ▸ d255, phase⟩

theorem CadenceGenerator.Lawful.stopped_lit {x : CadenceGenerator} (h : x.Lawful) :
    x.running = false → x.phase = .lit := by
  obtain ⟨-, -, -, -, -, -, phase⟩ := h
  exact phase

theorem CadenceGenerator.Lawful.toggled {x : CadenceGenerator} (h : x.Lawful) (running : x.running = true) :
    x.toggled.Lawful := by
  unfold CadenceGenerator.toggled
  split <;> exact h.of_reloads rfl rfl rfl fun stopped => absurd (running.symm.trans stopped) Bool.noConfusion

theorem CadenceGenerator.Lawful.tick {x : CadenceGenerator} (h : x.Lawful) : x.tick.Lawful := by
  unfold CadenceGenerator.tick
  split
  · exact h.of_reloads rfl rfl rfl h.stopped_lit
  · exact h

theorem CadenceUnit.Lawful.tick {c : CadenceUnit} (h : c.Lawful) : c.tick.Lawful := by
  intro g
  rw [CadenceUnit.generator_tick]
  exact (h g).tick

/-- SET CADENCE with its operands in range leaves a lawful generator: one that goes on RUNNING, or one that is LIT. -/
theorem CadenceGenerator.Lawful.set {x : CadenceGenerator} (h : x.Lawful) {prescale : Half} {lit dark : Byte}
    (prescaleLeast : 1 ≤ prescale.toNat) (prescaleMost : prescale.toNat ≤ 256) (litLeast : 1 ≤ lit.toNat)
    (darkLeast : 1 ≤ dark.toNat) (run : Bool) : (x.set prescale lit dark run).Lawful := by
  have written : (x.write prescale.toNat lit.toNat dark.toNat).Lawful :=
    ⟨prescaleLeast, prescaleMost, litLeast, Nat.le_of_lt_succ lit.isLt, darkLeast, Nat.le_of_lt_succ dark.isLt,
      h.stopped_lit⟩
  rw [CadenceGenerator.set, CadenceGenerator.act_eq]
  split
  · exact written
  · exact written.of_reloads rfl rfl rfl fun _ => rfl

theorem CadenceUnit.Lawful.afterSoftwareReset {c : CadenceUnit} (h : c.Lawful) : c.afterSoftwareReset.Lawful := by
  intro g
  cases g with
  | fast => exact (h .fast).of_reloads rfl rfl rfl fun _ => rfl
  | slow => exact (h .slow).of_reloads rfl rfl rfl fun _ => rfl
  | wink => exact (h .wink).of_reloads rfl rfl rfl fun _ => rfl

theorem CadenceUnit.initial_lawful : CadenceUnit.initial.Lawful := by
  intro g
  cases g <;> simp [CadenceUnit.initial, CadenceUnit.generator, CadenceGenerator.loaded, CadenceGenerator.Lawful]

end Sys2Proof.Machine

/-!
PROOFS. Every step keeps the records lawful (O60): what each operation does to them, through the relation across a step.
-/

namespace Sys2Proof.Machine

/-! ## What keeps the records lawful -/

/-- One loop controller for another: the tile records stay lawful, the period stays in its range (R105, R112). -/
structure LoopController.Keeps (c d : LoopController) : Prop where
  tiles : TilesLawful c.tiles → TilesLawful d.tiles
  period : 20 ≤ c.period ∧ c.period ≤ 200 → 20 ≤ d.period ∧ d.period ≤ 200

@[simp] theorem LoopController.Keeps.refl (c : LoopController) : c.Keeps c := ⟨id, id⟩

theorem LoopController.Keeps.trans {c d e : LoopController} (h : c.Keeps d) (k : d.Keeps e) : c.Keeps e :=
  ⟨k.tiles ∘ h.tiles, k.period ∘ h.period⟩

/-- Each law of O60 that holds in one state holds in the other, part by part. A part that is not named is one that the
frame lemmas say is left as it was. -/
structure State.KeepsRecords (s t : State) : Prop where
  proving : ProvingLawful s.proving → ProvingLawful t.proving := by simp
  loopA : s.loopA.Keeps t.loopA := by simp
  loopB : s.loopB.Keeps t.loopB := by simp
  supervision : s.supervision.Lawful → t.supervision.Lawful := by simp
  composer : s.composer.Lawful → t.composer.Lawful := by simp
  queue : s.link.QueueBounded → t.link.QueueBounded := by simp
  desk : s.desk.Lawful → t.desk.Lawful := by simp
  cadence : s.cadence.Lawful → t.cadence.Lawful := by simp

theorem State.KeepsRecords.refl (s : State) : s.KeepsRecords s := {}

theorem State.KeepsRecords.of_eq {s t : State} (h : t = s) : s.KeepsRecords t := h ▸ .refl s

theorem State.KeepsRecords.trans {s t u : State} (h : s.KeepsRecords t) (k : t.KeepsRecords u) : s.KeepsRecords u where
  proving := k.proving ∘ h.proving
  loopA := h.loopA.trans k.loopA
  loopB := h.loopB.trans k.loopB
  supervision := k.supervision ∘ h.supervision
  composer := k.composer ∘ h.composer
  queue := k.queue ∘ h.queue
  desk := k.desk ∘ h.desk
  cadence := k.cadence ∘ h.cadence

/-! ### Single updates -/

/-- An entry offered after a change that keeps the records. -/
theorem State.KeepsRecords.offer {s t : State} (h : s.KeepsRecords t) (o : Offer) : s.KeepsRecords (t.offer o) :=
  h.trans {}

/-- A loop controller and the composer replaced. -/
theorem State.withLoop_composer_keepsRecords {s : State} {l : Loop} {c : LoopController} {d : Composer}
    (h : (s.loop l).Keeps c) (k : s.composer.Lawful → d.Lawful) :
    s.KeepsRecords { s.withLoop l c with composer := d } := by
  cases l with
  | a => exact show s.KeepsRecords { s with loopA := c, composer := d } from { loopA := h, composer := k }
  | b => exact show s.KeepsRecords { s with loopB := c, composer := d } from { loopB := h, composer := k }

theorem State.withLoop_keepsRecords {s : State} {l : Loop} {c : LoopController} (h : (s.loop l).Keeps c) :
    s.KeepsRecords (s.withLoop l c) := by
  cases l with
  | a => exact show s.KeepsRecords { s with loopA := c } from { loopA := h }
  | b => exact show s.KeepsRecords { s with loopB := c } from { loopB := h }

theorem State.withLink_keepsRecords {s : State} {r : LinkRecord} (h : s.supervision.link.Lawful → r.Lawful) :
    s.KeepsRecords (s.withLink r) :=
  { supervision := fun ⟨link, outstations⟩ => ⟨h link, outstations⟩ }

theorem State.withOutstation_keepsRecords {s : State} {n : Fin 128} {o : Outstation}
    (h : (s.supervision.outstations.get n).Lawful → o.Lawful) : s.KeepsRecords (s.withOutstation n o) :=
  { supervision := fun law => law.withOutstation n (h (law.2 n)) }

theorem State.withGenerator_keepsRecords {s : State} {g : Generator} {x : CadenceGenerator}
    (h : (s.cadence.generator g).Lawful → x.Lawful) : s.KeepsRecords (s.withGenerator g x) :=
  { cadence := fun law => law.withGenerator g (h (law g)) }

theorem State.deriveHorn_keepsRecords (s : State) : s.KeepsRecords s.deriveHorn := {}

theorem State.offerMode_keepsRecords (s : State) (old new : DeviceMode) : s.KeepsRecords (s.offerMode old new) := {}

theorem State.offerLampTest_keepsRecords (s : State) (source : Source) (begins : Bool) :
    s.KeepsRecords (s.offerLampTest source begins) := {}

/-- The Mode Controller holds none of the records. -/
theorem State.withMode_keepsRecords (s : State) (m : ModeController) : s.KeepsRecords { s with mode := m } := {}

theorem State.catchUp_supervision (s : State) : s.catchUp.supervision = s.supervision := by simp

theorem State.askCompose_keepsRecords (s : State) (l : Loop) : s.KeepsRecords (s.askCompose l) :=
  { composer := fun law => law.ask l }

theorem State.sendReply_keepsRecords (s : State) (kind : Byte) (status : Status) (payload : List Byte)
    (ofReset : Bool) : s.KeepsRecords (s.sendReply kind status payload ofReset) :=
  { queue := id }

/-! ### The composer (chapter 5) -/

theorem State.catchUp_keepsRecords (s : State) : s.KeepsRecords s.catchUp := by
  cases composing : s.composer.pass with
  | none => rw [State.catchUp_idle composing]; exact .refl s
  | some p =>
    refine { composer := fun law => ?_ }
    rw [State.catchUp_composing composing]
    refine law.congr (fun l => by cases l <;> rfl) fun l => ?_
    simp [Composer.Claims, composing, State.composeTo]

theorem State.startPass_keepsRecords (s : State) : s.KeepsRecords s.startPass := by
  unfold State.startPass
  split
  · next due =>
    have idle : s.composer.pass = none := by
      simp only [State.passDue, Bool.and_eq_true, Option.isNone_iff_eq_none] at due
      exact due.1
    split
    · next l _ => exact { composer := fun law => law.begin idle _ rfl l none }
    · exact .refl s
  · exact .refl s

theorem State.endPass_keepsRecords (s : State) : s.KeepsRecords s.endPass := by
  unfold State.endPass
  split
  · exact .refl s
  · next p composing =>
    rw [State.completePass_eq]
    exact State.withLoop_composer_keepsRecords ⟨id, id⟩ fun law => law.complete composing _

/-! ### The loops (chapter 6) -/

theorem LoopController.stop_keeps (c : LoopController) : c.Keeps c.stop :=
  ⟨fun _ => .map fun _ => Tile.cleared_lawful _ _, id⟩

theorem LoopController.normalStart_keeps (c : LoopController) : c.Keeps c.normalStart :=
  ⟨fun law => .map fun slot => (law slot).latched, id⟩

theorem State.stopLoop_keepsRecords (s : State) (l : Loop) : s.KeepsRecords (s.stopLoop l) :=
  State.withLoop_composer_keepsRecords (s.loop l).stop_keeps fun law => law.drop l

/-- A change of a loop controller that touches neither its tile records nor its period. -/
theorem State.withLoop_keepsRecords_same {s : State} {l : Loop} {c : LoopController}
    (tiles : c.tiles = (s.loop l).tiles) (period : c.period = (s.loop l).period) :
    s.KeepsRecords (s.withLoop l c) :=
  State.withLoop_keepsRecords ⟨tiles ▸ id, period ▸ id⟩

theorem State.sendHeader_keepsRecords (s : State) (l : Loop) : s.KeepsRecords (s.sendHeader l) := by
  unfold State.sendHeader
  split
  · exact .refl s
  · exact State.withLoop_keepsRecords_same rfl rfl

theorem State.startNormalFrame_keepsRecords (s : State) (l : Loop) : s.KeepsRecords (s.startNormalFrame l) := by
  have started : s.KeepsRecords (s.withLoop l (s.loop l).normalStart) :=
    State.withLoop_keepsRecords (s.loop l).normalStart_keeps
  have latched := started.trans (u := (s.withLoop l (s.loop l).normalStart).offerLatched l (s.loop l).tiles) {}
  unfold State.startNormalFrame
  refine .trans ?_ (State.sendHeader_keepsRecords _ l)
  split
  · exact latched.trans (State.askCompose_keepsRecords _ l)
  · exact latched

theorem State.startFrame_keepsRecords (l : Loop) (s : State) : s.KeepsRecords (s.startFrame l) := by
  unfold State.startFrame
  split
  · split
    · exact s.startNormalFrame_keepsRecords l
    · have started : s.KeepsRecords (s.withLoop l ((s.loop l).testStart s.intensity)) :=
        State.withLoop_keepsRecords_same rfl rfl
      exact started.trans (State.sendHeader_keepsRecords _ l)
    · exact .refl s
    · exact .refl s
  · exact .refl s

theorem State.expireFrameTimer_keepsRecords (l : Loop) (s : State) : s.KeepsRecords (s.expireFrameTimer l) := by
  unfold State.expireFrameTimer
  split
  · exact State.withLoop_keepsRecords_same rfl rfl
  · exact .refl s

theorem State.compareSlot_keepsRecords (s : State) (r : SlotReport) : s.KeepsRecords (s.compareSlot r) := by
  unfold State.compareSlot
  split
  · exact .refl s
  · next w _ =>
    split
    · have moved : s.KeepsRecords { s with proving := r.moved w.sense s.proving } :=
        { proving := fun law => law.moved r w.sense }
      dsimp only
      split
      · exact moved
      · exact moved.offer _
    · exact .refl s

theorem State.runningSlotEnd_keepsRecords (s : State) (l : Loop) (slot : Fin 32) (reply : Option TileReply) :
    s.KeepsRecords (s.runningSlotEnd l slot reply) := by
  let after := ((s.loop l).tiles.get slot).afterSlot reply ((s.loop l).latched.get slot)
  let moved := s.withLoop l { s.loop l with tiles := (s.loop l).tiles.put slot after }
  have moves : s.KeepsRecords moved :=
    State.withLoop_keepsRecords ⟨fun law => law.put slot ((law slot).afterSlot reply _), id⟩
  have told : moved.KeepsRecords (moved.offerTile l slot ((s.loop l).tiles.get slot) after) := {}
  exact (moves.trans told).trans (State.compareSlot_keepsRecords _ _)

theorem State.endSlot_keepsRecords (l : Loop) (window : List RxChar) (s : State) :
    s.KeepsRecords (s.endSlot l window) := by
  unfold State.endSlot
  split
  · exact .refl s
  · next t _ =>
    split
    · exact .refl s
    · next slot rest _ =>
      have ended (valid : Bool) : s.KeepsRecords (s.endTransfer l t slot rest valid) :=
        State.withLoop_keepsRecords_same rfl rfl
      dsimp only
      split
      · exact (ended _).trans (State.runningSlotEnd_keepsRecords _ l slot _)
      · exact (ended (tileReplyOf window).isSome).trans {}
      · exact ended _
      · exact ended _

theorem State.endTestFrame_keepsRecords (s : State) (l : Loop) : s.KeepsRecords (s.endTestFrame l) := by
  let ended : State :=
    { s.withLoop l (s.loop l).testEnd with
      mode := { s.mode with test := s.mode.test.frameDone l (s.loop l).latched } }
  have cleared : s.KeepsRecords (s.withLoop l (s.loop l).testEnd) := State.withLoop_keepsRecords_same rfl rfl
  have ends : s.KeepsRecords ended := cleared.trans (State.withMode_keepsRecords _ _)
  unfold State.endTestFrame
  dsimp only
  split
  · have closed : (ended.stopLoop l).KeepsRecords (ended.stopLoop l).closeLoopTest := {}
    exact (ends.trans (ended.stopLoop_keepsRecords l)).trans closed
  · exact ends

theorem State.endFrame_keepsRecords (l : Loop) (s : State) : s.KeepsRecords (s.endFrame l) := by
  have ended : s.KeepsRecords (s.withLoop l (s.loop l).normalEnd) := State.withLoop_keepsRecords_same rfl rfl
  unfold State.endFrame
  split
  · split
    · exact ended
    · exact ended.trans (State.stopLoop_keepsRecords _ l)
    · exact s.endTestFrame_keepsRecords l
    · exact .refl s
  · exact .refl s

/-! ### Starting, stopping and testing the loops (R101, R102, R168, R170) -/

theorem State.loopOnline_keepsRecords (s : State) (l : Loop) : s.KeepsRecords (s.loopOnline l) := by
  unfold State.loopOnline
  split
  · have started : s.KeepsRecords (s.withLoop l
        { s.loop l with
          state := .running, front := Image.allDark s.intensity, timer := .counting (s.loop l).period }) :=
      State.withLoop_keepsRecords_same rfl rfl
    exact started.trans (State.askCompose_keepsRecords _ l)
  · have moved : s.KeepsRecords (s.withLoop l { s.loop l with state := .running }) :=
      State.withLoop_keepsRecords_same rfl rfl
    unfold State.resumeLoop
    dsimp only
    split
    · exact moved
    · exact moved.trans (State.askCompose_keepsRecords _ l)
  · exact .refl s
  · exact .refl s

theorem State.loopOffline_keepsRecords (s : State) (l : Loop) : s.KeepsRecords (s.loopOffline l) := by
  unfold State.loopOffline
  split
  · split
    · exact State.withLoop_composer_keepsRecords ⟨id, id⟩ fun law => law.withdraw l
    · exact s.stopLoop_keepsRecords l
  · exact .refl s
  · exact .refl s
  · exact .refl s

theorem State.abortLoop_keepsRecords (s : State) (l : Loop) : s.KeepsRecords (s.abortLoop l) := by
  unfold State.abortLoop
  split
  · exact s.stopLoop_keepsRecords l
  · exact .refl s

theorem abortTestAnswer_keepsRecords (s : State) : s.KeepsRecords (abortTestAnswer s).state := by
  unfold abortTestAnswer
  split
  · show s.KeepsRecords s.abortTest
    unfold State.abortTest
    split
    · exact .refl s
    · split
      · exact {}
      · let marked : State := { s with mode := { s.mode with test := { s.mode.test with state := .aborting } } }
        let aborted := (marked.abortLoop .a).abortLoop .b
        have marks : s.KeepsRecords marked := s.withMode_keepsRecords _
        have aborts : marked.KeepsRecords aborted :=
          (marked.abortLoop_keepsRecords .a).trans (State.abortLoop_keepsRecords _ .b)
        have closed : aborted.KeepsRecords aborted.closeLoopTest := {}
        exact (marks.trans aborts).trans closed
  · exact .refl s

theorem State.clearForMemoryTest_keepsRecords (s : State) : s.KeepsRecords s.clearForMemoryTest where
  proving _ := provingLawful_empty
  composer := s.catchUp_keepsRecords.composer

theorem State.startLoopTest_keepsRecords (s : State) (l : Loop) : s.KeepsRecords (s.startLoopTest l) :=
  State.withLoop_keepsRecords_same rfl rfl

theorem runTestAnswer_keepsRecords (kind : Byte) (s : State) : s.KeepsRecords (runTestAnswer kind s).state := by
  unfold runTestAnswer
  split
  · split
    · dsimp only
      split
      · exact (s.withMode_keepsRecords _).trans (State.clearForMemoryTest_keepsRecords _)
      · exact ((s.withMode_keepsRecords _).trans (State.startLoopTest_keepsRecords _ .a)).trans
          (State.startLoopTest_keepsRecords _ .b)
    · exact .refl s
  · exact .refl s

theorem setModeOnlineAnswer_keepsRecords (s : State) : s.KeepsRecords (setModeOnlineAnswer s).state := by
  unfold setModeOnlineAnswer
  split
  · exact .refl s
  · have online : s.KeepsRecords (s.withDevice .online) := {}
    have loops := (online.trans (State.loopOnline_keepsRecords _ .a)).trans (State.loopOnline_keepsRecords _ .b)
    exact (loops.trans (State.deriveHorn_keepsRecords _)).trans (State.offerMode_keepsRecords _ _ _)

theorem setModeOfflineAnswer_keepsRecords (s : State) : s.KeepsRecords (setModeOfflineAnswer s).state := by
  unfold setModeOfflineAnswer
  split
  · exact .refl s
  · have offline : s.KeepsRecords (s.withDevice .offline).deriveHorn := {}
    have loops := (offline.trans (State.loopOffline_keepsRecords _ .a)).trans (State.loopOffline_keepsRecords _ .b)
    dsimp only
    split
    · exact ((loops.trans (State.withMode_keepsRecords _ _)).trans (State.offerMode_keepsRecords _ _ _)).trans
        (State.offerLampTest_keepsRecords _ _ _)
    · exact (loops.trans (State.withMode_keepsRecords _ _)).trans (State.offerMode_keepsRecords _ _ _)

/-! ### Supervision (chapter 8) -/

theorem State.expireLink_keepsRecords (s : State) : s.KeepsRecords s.expireLink := by
  unfold State.expireLink
  split
  · next due =>
    have expired : s.supervision.link.countdown = .expired := of_decide_eq_true due
    refine .offer (s.catchUp_keepsRecords.trans (State.withLink_keepsRecords fun law => ?_)) _
    rw [State.catchUp_supervision] at law
    exact law.expire expired
  · exact .refl s

theorem State.expireOutstation_keepsRecords (n : Fin 128) (s : State) : s.KeepsRecords (s.expireOutstation n) := by
  unfold State.expireOutstation
  split
  · next due =>
    have expired : (s.supervision.outstations.get n).countdown = .expired := of_decide_eq_true due
    refine .offer (s.catchUp_keepsRecords.trans (State.withOutstation_keepsRecords fun law => ?_)) _
    rw [State.catchUp_supervision] at law
    exact law.expire expired
  · exact .refl s

theorem State.goodFrame_keepsRecords (s : State) : s.KeepsRecords s.goodFrame := by
  unfold State.goodFrame
  split
  · exact State.withLink_keepsRecords fun law => LinkRecord.loaded_lawful law.2
  · refine .offer (s.catchUp_keepsRecords.trans (State.withLink_keepsRecords fun _ => ?_)) _
    exact LinkRecord.loaded_lawful fun _ => rfl

theorem State.refresh_keepsRecords (s : State) (n : Fin 128) : s.KeepsRecords (s.refresh n) := by
  unfold State.refresh
  dsimp only
  split
  · exact .refl s
  · next healthy =>
    refine State.withOutstation_keepsRecords fun law => ?_
    have counted := law.refreshed (by simp [healthy]) ((s.supervision.outstations.get n).period * 1000)
    rwa [← healthy] at counted
  · next failed =>
    refine .offer (State.withOutstation_keepsRecords fun law => ?_) _
    exact law.refreshed (by simp [failed]) _

theorem State.storePeriod_keepsRecords (s : State) (n : Fin 128) (period : Nat) :
    s.KeepsRecords (s.storePeriod n period) := by
  unfold State.storePeriod
  dsimp only
  split
  · refine .offer (s.catchUp_keepsRecords.trans (State.withOutstation_keepsRecords fun _ => ?_)) _
    exact Outstation.withPeriod_lawful _ _
  · exact State.withOutstation_keepsRecords fun _ => Outstation.withPeriod_lawful _ _

theorem storePeriodsFrom_keepsRecords (ps : List Half) :
    ∀ (number : Nat) (s : State), s.KeepsRecords (storePeriodsFrom number ps s) := by
  induction ps with
  | nil => exact fun _ s => .refl s
  | cons p rest ih =>
    intro number s
    refine .trans ?_ (ih (number + 1) _)
    split
    · exact s.storePeriod_keepsRecords _ _
    · exact .refl s

theorem heartbeatFrom_keepsRecords (os : List Byte) :
    ∀ (position : Nat) (b : Batch), b.state.KeepsRecords (heartbeatFrom position os b).state := by
  induction os with
  | nil => exact fun _ b => .refl b.state
  | cons x rest ih =>
    intro position b
    refine .trans ?_ (ih (position + 1) _)
    split
    · exact b.state.catchUp_keepsRecords.trans (State.refresh_keepsRecords _ _)
    · exact .refl b.state

theorem setSupervisionAnswer_keepsRecords (mode period : Byte) (s : State) :
    s.KeepsRecords (setSupervisionAnswer mode period s).state := by
  unfold setSupervisionAnswer
  split
  · exact .refl s
  · next m _ =>
    split
    · exact .refl s
    · split
      · dsimp only
        split
        · refine .offer (s.catchUp_keepsRecords.trans (State.withLink_keepsRecords fun law => ?_)) _
          rw [State.catchUp_supervision] at law
          exact law.set m _
        · exact State.withLink_keepsRecords fun law => law.set m _
      · exact .refl s

/-! ### The receiver and the queue (chapter 11) -/

theorem State.judgeFrame_keepsRecords (s : State) (last : Byte) : s.KeepsRecords (s.judgeFrame last) := by
  unfold State.judgeFrame
  dsimp only
  split
  · exact s.goodFrame_keepsRecords.trans
      { queue := fun law => LinkInterface.QueueBounded.offerItem (l := s.goodFrame.link.hunting) law _ }
  · exact { queue := fun law => LinkInterface.QueueBounded.offerItem (l := s.link.hunting) law _ }

theorem State.receive_keepsRecords (c : RxChar) (s : State) : s.KeepsRecords (s.receive c) := by
  unfold State.receive
  split
  · split
    · exact { queue := id }
    · exact .refl s
  · refine { queue := fun law => ?_ }
    dsimp only
    split
    · exact law.takeLength _
    · exact law
  · refine { queue := fun law => ?_ }
    dsimp only
    split <;> exact law
  · split
    · split
      · exact { queue := id }
      · exact s.judgeFrame_keepsRecords _
    · exact { queue := id }

/-! ### The desk and the cadence (chapters 3 and 4) -/

theorem State.acknowledgeEntries_keepsRecords (source : Source) (s : State) (entries : List AnnEntry) :
    s.KeepsRecords (s.acknowledgeEntries source entries) := by
  cases entries with
  | nil => exact .refl s
  | cons e rest =>
    have acknowledged : s.catchUp.KeepsRecords ((e :: rest).foldl (State.acknowledgeEntry source) s.catchUp) := {}
    exact s.catchUp_keepsRecords.trans acknowledged

theorem State.onAckPress_keepsRecords (s : State) (formed : Bool) : s.KeepsRecords (s.onAckPress formed) := by
  unfold State.onAckPress
  split
  · exact s.acknowledgeEntries_keepsRecords .desk _
  · exact .refl s

theorem State.onSilencePress_keepsRecords (s : State) (formed : Bool) : s.KeepsRecords (s.onSilencePress formed) := {}

theorem State.onLampTestKey_keepsRecords (s : State) (before after : Bool) :
    s.KeepsRecords (s.onLampTestKey before after) := {}

theorem State.sampleDesk_keepsRecords (pins : DeskPins) (s : State) : s.KeepsRecords (s.sampleDesk pins) := by
  have sampled : s.KeepsRecords { s with desk := s.desk.sampled pins } := { desk := fun law => law.sampled pins }
  unfold State.sampleDesk
  split
  · dsimp only
    split
    · exact ((sampled.trans (State.onAckPress_keepsRecords _ _)).trans (State.onSilencePress_keepsRecords _ _)).trans
        (State.onLampTestKey_keepsRecords _ _ _)
    · exact sampled
  · exact .refl s

theorem setDeskControlAnswer_keepsRecords (enable period : Byte) (s : State) :
    s.KeepsRecords (setDeskControlAnswer enable period s).state := by
  unfold setDeskControlAnswer
  split
  · next range =>
    have small : period.toNat = 1 ∨ period.toNat = 4 ∨ period.toNat = 16 := by
      rcases range.2 with rfl | rfl | rfl <;> decide
    refine { desk := fun law => ?_ }
    have enabled : (s.setDeskEnable (enable = 1)).desk.Lawful := by
      rw [State.setDeskEnable_eq]
      exact law
    exact enabled.withPeriod small
  · exact .refl s

theorem State.followPhase_keepsRecords (s : State) (g : Generator) : s.KeepsRecords (s.followPhase g) := {}

theorem State.expirePrescale_keepsRecords (g : Generator) (s : State) : s.KeepsRecords (s.expirePrescale g) := by
  unfold State.expirePrescale
  split
  · exact State.withGenerator_keepsRecords fun law => law.of_reloads rfl rfl rfl law.stopped_lit
  · exact .refl s

theorem State.togglePhase_keepsRecords (g : Generator) (s : State) : s.KeepsRecords (s.togglePhase g) := by
  unfold State.togglePhase
  split
  · next due =>
    have running := ((s.toggleDue_iff g).mp due).1
    exact .trans (State.withGenerator_keepsRecords fun law => law.toggled running) (State.followPhase_keepsRecords _ g)
  · exact .refl s

theorem setCadenceAnswer_keepsRecords (g : Byte) (prescale : Half) (lit dark run : Byte) (s : State) :
    s.KeepsRecords (setCadenceAnswer g prescale lit dark run s).state := by
  unfold setCadenceAnswer
  split
  · exact .refl s
  · next x _ =>
    split
    · next range =>
      obtain ⟨prescaleLeast, prescaleMost, litLeast, darkLeast, -⟩ := range
      exact .trans
        (State.withGenerator_keepsRecords fun law => law.set prescaleLeast prescaleMost litLeast darkLeast _)
        (State.followPhase_keepsRecords _ x)
    · exact .refl s

theorem State.countTick_keepsRecords (s : State) : s.KeepsRecords s.countTick where
  loopA := ⟨id, id⟩
  loopB := ⟨id, id⟩
  supervision law := law.tick
  composer := id
  queue := id
  desk := id
  cadence law := law.tick
  proving := id

/-! ### The points (chapter 1) -/

theorem State.withPoint_keepsRecords (s : State) (p : Nat) (r : PointRecord) : s.KeepsRecords (s.withPoint p r) := {}

theorem State.withPoints_keepsRecords (s : State) (points : PointStore) :
    s.KeepsRecords { s with points := points } := {}

theorem State.withdrawEntry_keepsRecords (s : State) (p : Nat) : s.KeepsRecords (s.withdrawEntry p) := {}

theorem State.offerAdmin_keepsRecords (s : State) (p : Nat) (k : Fin 16) (action : Byte) (v : Option Nat) :
    s.KeepsRecords (s.offerAdmin p k action v) := {}

theorem State.settle_keepsRecords (s : State) (p : Nat) (old : Option Nat) : s.KeepsRecords (s.settle p old) := {}

theorem State.enableArrival_keepsRecords (s : State) (p : Nat) (r : PointRecord) :
    s.KeepsRecords (s.enableArrival p r) := {}

/-- A point's record written once the pass in flight has caught up (R98). -/
theorem State.catchUp_withPoint_keepsRecords (s : State) (p : Nat) (r : PointRecord) :
    s.KeepsRecords (s.catchUp.withPoint p r) :=
  s.catchUp_keepsRecords.trans (State.withPoint_keepsRecords _ _ _)

theorem State.applyUpdate_keepsRecords (s : State) (u : Update) (r : PointRecord) :
    s.KeepsRecords (s.applyUpdate u r) :=
  ((s.catchUp_withPoint_keepsRecords _ _).trans (State.refresh_keepsRecords _ _)).trans
    (State.settle_keepsRecords _ _ _)

theorem updatesFrom_keepsRecords (us : List Update) :
    ∀ (position : Nat) (b : Batch), b.state.KeepsRecords (updatesFrom position us b).state := by
  induction us with
  | nil => exact fun _ b => .refl b.state
  | cons u rest ih =>
    intro position b
    refine .trans ?_ (ih (position + 1) _)
    split
    · exact State.applyUpdate_keepsRecords _ _ _
    · exact .refl b.state

theorem State.withNamed_keepsRecords {s : State} {point : Half} {f : Nat → PointRecord → Answer}
    (h : ∀ r, s.KeepsRecords (f point.toNat r).state) : s.KeepsRecords (s.withNamed point f).state := by
  unfold State.withNamed
  split
  · split
    · exact .refl s
    · exact h _
  · exact .refl s

theorem definePointAnswer_keepsRecords (d : DefineArgs) (s : State) :
    s.KeepsRecords (definePointAnswer d s).state := by
  unfold definePointAnswer
  dsimp only
  split
  · exact .refl s
  · split
    · exact .refl s
    · split
      · exact .refl s
      · split
        · exact .refl s
        · exact (s.catchUp_keepsRecords.trans (State.withPoints_keepsRecords _ _)).trans
            (State.offerAdmin_keepsRecords _ _ _ _ _)

theorem deletePointAnswer_keepsRecords (point : Half) (s : State) :
    s.KeepsRecords (deletePointAnswer point s).state := by
  refine State.withNamed_keepsRecords fun r => ?_
  have withdrawn : s.KeepsRecords
      (if r.kind = .alarm then s.catchUp.withdrawEntry point.toNat else s.catchUp) := by
    split
    · exact s.catchUp_keepsRecords.trans (State.withdrawEntry_keepsRecords _ _)
    · exact s.catchUp_keepsRecords
  exact (withdrawn.trans (State.withPoints_keepsRecords _ _)).trans (State.offerAdmin_keepsRecords _ _ _ _ _)

theorem forcePointAnswer_keepsRecords (point : Half) (v : Byte) (s : State) :
    s.KeepsRecords (forcePointAnswer point v s).state := by
  refine State.withNamed_keepsRecords fun r => ?_
  split
  · exact ((s.catchUp_withPoint_keepsRecords _ _).trans (State.offerAdmin_keepsRecords _ _ _ _ _)).trans
      (State.settle_keepsRecords _ _ _)
  · exact .refl s

theorem releasePointAnswer_keepsRecords (point : Half) (s : State) :
    s.KeepsRecords (releasePointAnswer point s).state := by
  refine State.withNamed_keepsRecords fun r => ?_
  split
  · exact ((s.catchUp_withPoint_keepsRecords _ _).trans (State.offerAdmin_keepsRecords _ _ _ _ _)).trans
      (State.settle_keepsRecords _ _ _)
  · exact .refl s

theorem inhibitPointAnswer_keepsRecords (point : Half) (s : State) :
    s.KeepsRecords (inhibitPointAnswer point s).state := by
  refine State.withNamed_keepsRecords fun r => ?_
  split
  · exact .refl s
  · refine .trans ?_ (State.offerAdmin_keepsRecords _ _ _ _ _)
    split
    · exact (s.catchUp_withPoint_keepsRecords _ _).trans (State.withdrawEntry_keepsRecords _ _)
    · exact s.catchUp_withPoint_keepsRecords _ _

theorem enablePointAnswer_keepsRecords (point : Half) (s : State) :
    s.KeepsRecords (enablePointAnswer point s).state := by
  refine State.withNamed_keepsRecords fun r => ?_
  split
  · have enabled := (s.catchUp_withPoint_keepsRecords point.toNat { r with inhibited := false }).trans
      (State.offerAdmin_keepsRecords _ point.toNat r.sect 6 r.effective)
    dsimp only
    split
    · exact enabled.trans (State.enableArrival_keepsRecords _ _ _)
    · exact enabled
  · exact .refl s

theorem acknowledgeAnswer_keepsRecords (scope : Byte) (argument : Half) (s : State) :
    s.KeepsRecords (acknowledgeAnswer scope argument s).state := by
  rcases acknowledgeAnswer_state scope argument s with same | ⟨entries, taken⟩
  · rw [same]
    exact .refl s
  · rw [taken]
    exact s.acknowledgeEntries_keepsRecords .host entries

/-! ### The settings of a loop, and the lamp test -/

theorem configureTileAnswer_keepsRecords (loop slot size enable : Byte) (s : State) :
    s.KeepsRecords (configureTileAnswer loop slot size enable s).state := by
  unfold configureTileAnswer
  split
  · next n _ _ _ _ _ _ => exact State.withLoop_keepsRecords ⟨fun law => law.put n (law n), id⟩
  · exact .refl s

theorem setLoopTimingAnswer_keepsRecords (loop : Byte) (period : Half) (s : State) :
    s.KeepsRecords (setLoopTimingAnswer loop period s).state := by
  unfold setLoopTimingAnswer
  split
  · exact .refl s
  · split
    · next range => exact State.withLoop_keepsRecords ⟨id, fun _ => range⟩
    · exact .refl s

theorem lampTestAnswer_keepsRecords (duration : Byte) (s : State) :
    s.KeepsRecords (lampTestAnswer duration s).state := by
  unfold lampTestAnswer
  split
  · split
    · exact {}
    · exact .refl s
  · exact .refl s

/-! ### The resets -/

theorem tilesLawful_initial : TilesLawful (Bank.fill 32 Tile.initial) := by
  intro slot
  rw [Bank.get_fill]
  exact Tile.cleared_lawful Tile.initial .disabled

theorem State.endResetReply_keepsRecords (s : State) : s.KeepsRecords s.endResetReply := by
  unfold State.endResetReply
  split
  · exact
      { proving := fun _ => provingLawful_empty
        loopA := ⟨fun _ => .map fun _ => Tile.cleared_lawful _ _, id⟩
        loopB := ⟨fun _ => .map fun _ => Tile.cleared_lawful _ _, id⟩
        supervision := fun _ => SupervisionUnit.afterSoftwareReset_lawful _
        composer := fun _ => Composer.initial_lawful
        queue := fun _ => Nat.zero_le _
        desk := fun ⟨_, _, _, _, _, range⟩ => DeskUnit.initial_lawful _ _ range
        cadence := fun law => law.afterSoftwareReset }
  · exact .refl s

theorem State.assertReset_keepsRecords (s : State) : s.KeepsRecords s.assertReset where
  loopA := ⟨id, id⟩
  loopB := ⟨id, id⟩
  supervision := id
  composer := id
  queue := id
  desk := id
  cadence := id
  proving := id

theorem State.negateReset_keepsRecords (straps : Straps) (s : State) : s.KeepsRecords (s.negateReset straps) := by
  have loop (c : LoopController) : c.Keeps (LoopController.initial 40 12 (Bank.fill 32 Tile.initial)) :=
    ⟨fun _ => tilesLawful_initial, fun _ => ⟨show 20 ≤ 40 by decide, show 40 ≤ 200 by decide⟩⟩
  have taken {t : State} (proving : t.proving = Sparse.empty) (a : t.loopA = State.reset.loopA)
      (b : t.loopB = State.reset.loopB) (supervision : t.supervision = SupervisionUnit.initial straps.supvAuto)
      (composer : t.composer = Composer.initial) (link : t.link = LinkInterface.initial)
      (desk : t.desk = DeskUnit.initial true 4 s.desk.pins) (cadence : t.cadence = CadenceUnit.initial) :
      s.KeepsRecords t :=
    { proving := fun _ => proving ▸ provingLawful_empty
      loopA := a ▸ loop s.loopA
      loopB := b ▸ loop s.loopB
      supervision := fun _ => supervision ▸ SupervisionUnit.initial_lawful _
      composer := fun _ => composer ▸ Composer.initial_lawful
      queue := fun _ => link ▸ Nat.zero_le _
      desk := fun _ => desk ▸ DeskUnit.initial_lawful _ _ (.inr (.inl rfl))
      cadence := fun _ => cadence ▸ CadenceUnit.initial_lawful }
  unfold State.negateReset
  dsimp only
  split <;> exact taken rfl rfl rfl rfl rfl rfl rfl rfl

/-! ### The requests and the step -/

/-- What a request does to the records. -/
theorem Request.Known.owner_keepsRecords {r : Request} (k : r.Known) (s : State) :
    s.KeepsRecords (r.owner s).state := by
  cases k with
  | readStatus | setModeOther | reset | readTestResults | misSized => exact .refl s
  | setModeOnline => exact setModeOnlineAnswer_keepsRecords s
  | setModeOffline => exact setModeOfflineAnswer_keepsRecords s
  | runTest kind => exact runTestAnswer_keepsRecords kind s
  | abortTest => exact abortTestAnswer_keepsRecords s
  | definePoint d => exact definePointAnswer_keepsRecords d s
  | deletePoint p => exact deletePointAnswer_keepsRecords p s
  | readPoint p => exact State.withNamed_keepsRecords fun _ => .refl s
  | updatePoints us => exact updatesFrom_keepsRecords us 0 ⟨s, 0, none⟩
  | forcePoint p v => exact forcePointAnswer_keepsRecords p v s
  | releasePoint p => exact releasePointAnswer_keepsRecords p s
  | inhibitPoint p => exact inhibitPointAnswer_keepsRecords p s
  | enablePoint p => exact enablePointAnswer_keepsRecords p s
  | acknowledge scope argument => exact acknowledgeAnswer_keepsRecords scope argument s
  | silence => exact show s.KeepsRecords (s.silenceHorn .host) from {}
  | readAnnunciation start count => exact .of_eq (readAnnunciationAnswer_state start count s)
  | readLoopStatus loop => exact .of_eq (readLoopStatusAnswer_state loop s)
  | readLampFaults start => exact .of_eq (readLampFaultsAnswer_state start s)
  | readOutstations first count => exact .of_eq (readOutstationsAnswer_state first count s)
  | setDeskControl enable period => exact setDeskControlAnswer_keepsRecords enable period s
  | configureTile loop slot size enable => exact configureTileAnswer_keepsRecords loop slot size enable s
  | setLoopTiming loop period => exact setLoopTimingAnswer_keepsRecords loop period s
  | lampTest d => exact lampTestAnswer_keepsRecords d s
  | setCadence g prescale lit dark run => exact setCadenceAnswer_keepsRecords g prescale lit dark run s
  | setTime time =>
    show s.KeepsRecords { s with cadence := { s.cadence with time := time } }
    refine { cadence := fun law g => ?_ }
    cases g with
    | fast => exact law .fast
    | slow => exact law .slow
    | wink => exact law .wink
  | setSupervision mode period => exact setSupervisionAnswer_keepsRecords mode period s
  | setOutstationPeriods first ps =>
    show s.KeepsRecords (setOutstationPeriodsAnswer first ps s).state
    unfold setOutstationPeriodsAnswer
    split
    · exact storePeriodsFrom_keepsRecords ps _ s
    · exact .refl s
  | siteHeartbeat os => exact heartbeatFrom_keepsRecords os 0 ⟨s, 0, none⟩
  | setHornThreshold v =>
    show s.KeepsRecords (setHornThresholdAnswer v s).state
    unfold setHornThresholdAnswer
    split
    · exact .refl s
    · exact {}
  | setIntensity v =>
    show s.KeepsRecords (setIntensityAnswer v s).state
    unfold setIntensityAnswer
    split
    · exact .refl s
    · exact {}
  | readJournal count =>
    show s.KeepsRecords (readJournalAnswer count s).state
    unfold readJournalAnswer
    split
    · exact {}
    · exact .refl s
  | setJournalSelection vs =>
    show s.KeepsRecords (setJournalSelectionAnswer vs s).state
    unfold setJournalSelectionAnswer
    split
    · exact {}
    · exact .refl s

/-- The records stay lawful across every single event, effect of a request and move of the queue. -/
theorem keepsRecords_stepRelation : StepRelation State.KeepsRecords where
  refl := .refl
  trans := .trans
  nextCommand _ _ := {}
  startPass := State.startPass_keepsRecords
  togglePhase := State.togglePhase_keepsRecords
  startFrame := State.startFrame_keepsRecords
  expirePrescale := State.expirePrescale_keepsRecords
  expireFrameTimer := State.expireFrameTimer_keepsRecords
  expireLink := State.expireLink_keepsRecords
  expireOutstation := State.expireOutstation_keepsRecords
  expireGap s := by
    unfold State.expireGap
    split
    · exact { queue := id }
    · exact .refl s
  expireHostTimer _ := {}
  sampleDesk := State.sampleDesk_keepsRecords
  countTick := State.countTick_keepsRecords
  endPass := State.endPass_keepsRecords
  endSlot := State.endSlot_keepsRecords
  endFrame := State.endFrame_keepsRecords
  completeMemoryTest _ _ := {}
  receive := State.receive_keepsRecords
  enqueue item _ := { queue := fun law => law.offerItem item }
  dequeue s item rest e := by
    refine { queue := fun law => ?_ }
    rw [LinkInterface.QueueBounded, e, List.length_cons] at law
    exact Nat.le_of_succ_le law
  owner _ s k := k.owner_keepsRecords s
  sendReply := State.sendReply_keepsRecords
  endResetReply := State.endResetReply_keepsRecords
  assertReset := State.assertReset_keepsRecords
  negateReset := State.negateReset_keepsRecords

theorem step_keepsRecords {s t : State} (e : step s = .next t) : s.KeepsRecords t :=
  keepsRecords_stepRelation.step e

/-- Settles O60: each law is one or two of the parts that every step keeps. -/
theorem stepsKeepTheRecords : Obligations.StepsKeepTheRecords := by
  refine ⟨fun s t => ?_, fun s t law e => (step_keepsRecords e).supervision law,
    fun s t law e => (step_keepsRecords e).composer law, fun s t law e => (step_keepsRecords e).queue law,
    fun s t => ?_⟩
  · rintro ⟨proving, tiles⟩ e
    have keeps := step_keepsRecords e
    refine ⟨keeps.proving proving, fun l => ?_⟩
    cases l with
    | a => exact keeps.loopA.tiles (tiles .a)
    | b => exact keeps.loopB.tiles (tiles .b)
  · rintro ⟨desk, cadence, period⟩ e
    have keeps := step_keepsRecords e
    refine ⟨keeps.desk desk, keeps.cadence cadence, fun l => ?_⟩
    cases l with
    | a => exact keeps.loopA.period (period .a)
    | b => exact keeps.loopB.period (period .b)

end Sys2Proof.Machine

/-!
PROOFS. The slots of a frame: Table 6-4 (O45), the reply window (Table 11-12) and the slot end (O44), the frame end (O47).
-/

namespace Sys2Proof.Machine

/-! ## Table 6-4 -/

theorem TileReply.rightSize_eq (r : TileReply) (size : Option TileSize) :
    r.rightSize size = decide (r.size = size ∧ size ≠ none) := by
  unfold TileReply.rightSize
  cases r.size <;> cases size <;> simp

theorem Tile.missed_of_ne {t : Tile} (h : t.missStreak ≠ 2) : t.missed = { t with missStreak := t.missStreak + 1 } :=
  if_neg (by omega)

theorem Tile.missed_of_two {t : Tile} (h : t.missStreak = 2) :
    t.missed = { t with state := .absent, missStreak := 0 } :=
  if_pos (by omega)

theorem Tile.answered_of_ne {t : Tile} (h : t.replyStreak ≠ 2) (right : Bool) :
    t.answered right = { t with replyStreak := t.replyStreak + 1 } :=
  if_neg (by omega)

theorem Tile.answered_of_two {t : Tile} (h : t.replyStreak = 2) (right : Bool) :
    t.answered right = { t with state := if right then .present else .mismatched, replyStreak := 0 } :=
  if_pos (by omega)

/-- Settles O45: a joined tile by the reply and its miss streak, an ABSENT one by the reply and its reply streak. -/
theorem tilesFollowTheirTable : Obligations.TilesFollowTheirTable := by
  refine ⟨fun t joined => ?_, fun t absent => ?_, fun t size => ⟨rfl, fun r => ?_⟩⟩
  · obtain ⟨moves, misses⟩ := Tile.slotMove_joined joined
    rw [misses]
    exact ⟨moves true, moves false, Tile.missed_of_ne, Tile.missed_of_two⟩
  · obtain ⟨answers, resets⟩ := Tile.slotMove_absent absent
    refine ⟨resets, fun right few => ?_, fun two => ⟨?_, ?_⟩⟩
    · rw [answers, Tile.answered_of_ne few]
    · rw [answers, Tile.answered_of_two two]; rfl
    · rw [answers, Tile.answered_of_two two]; rfl
  · rw [← r.rightSize_eq size]
    rfl

/-! ## The reply window (R111, R183, Table 11-12) -/

/-- Bit `8k + j` of the sense bytes is bit `j` of byte `k`. -/
theorem senseOf_testBit (bytes : List Byte) : ∀ (k j : Nat) (b : Byte), bytes[k]? = some b → j < 8 →
    (senseOf bytes).testBit (8 * k + j) = b.getLsbD j := by
  induction bytes with
  | nil => intro k j b h; simp at h
  | cons a rest ih =>
    intro k j b h small
    have packed : senseOf (a :: rest) = 2 ^ 8 * senseOf rest + a.toNat := Nat.add_comm _ _
    rw [packed, Nat.testBit_two_pow_mul_add _ a.isLt]
    cases k with
    | zero =>
      cases Option.some.inj h
      rw [if_pos (by omega), Nat.mul_zero, Nat.zero_add, BitVec.testBit_toNat]
    | succ k =>
      rw [if_neg (by omega), ← ih k j b h small]
      congr 1
      omega

/-- Eleven characters and what comes after them. -/
theorem exists_eleven_of_le_length {window : List RxChar} (h : 11 ≤ window.length) :
    ∃ m size status b0 b1 b2 b3 b4 b5 b6 b7 rest,
      window = m :: size :: status :: b0 :: b1 :: b2 :: b3 :: b4 :: b5 :: b6 :: b7 :: rest := by
  match window, h with
  | m :: size :: status :: b0 :: b1 :: b2 :: b3 :: b4 :: b5 :: b6 :: b7 :: rest, _ =>
    exact ⟨m, size, status, b0, b1, b2, b3, b4, b5, b6, b7, rest, rfl⟩

/-- The first of eleven characters is the reply marker, and every stop bit of the eleven was HIGH. -/
def ReplyWindow (window : List RxChar) : Prop :=
  11 ≤ window.length ∧ window.head?.map RxChar.byte = some 0x3C ∧ ∀ c ∈ window.take 11, c.stopOk = true

theorem tileReplyOf_short {window : List RxChar} (h : window.length < 11) : tileReplyOf window = none := by
  unfold tileReplyOf
  split
  · simp only [List.length_cons] at h
    omega
  · rfl

theorem tileReplyOf_eq_none {window : List RxChar} (h : ¬ ReplyWindow window) : tileReplyOf window = none := by
  by_cases short : window.length < 11
  · exact tileReplyOf_short short
  · obtain ⟨m, size, status, b0, b1, b2, b3, b4, b5, b6, b7, rest, rfl⟩ :=
      exists_eleven_of_le_length (Nat.le_of_not_lt short)
    refine if_neg fun valid => h ?_
    simpa [ReplyWindow] using valid

theorem tileReplyOf_eq_some {window : List RxChar} (h : ReplyWindow window) :
    ∃ (size status : RxChar) (r : TileReply), window[1]? = some size ∧ window[2]? = some status ∧
      tileReplyOf window = some r ∧ r.size = TileSize.ofCode size.byte ∧ r.driveFault = status.byte.getLsbD 0 ∧
      ∀ k j, k < 8 → j < 8 →
        ∃ c : RxChar, window[3 + k]? = some c ∧ r.sense.getLsbD (8 * k + j) = c.byte.getLsbD j := by
  obtain ⟨eleven, marker, stops⟩ := h
  obtain ⟨m, size, status, b0, b1, b2, b3, b4, b5, b6, b7, rest, rfl⟩ := exists_eleven_of_le_length eleven
  let senses := [b0, b1, b2, b3, b4, b5, b6, b7]
  refine ⟨size, status, _, rfl, rfl, if_pos ⟨Option.some.inj marker, List.all_eq_true.mpr stops⟩, rfl, rfl,
    fun k j hk hj => ?_⟩
  have sense : senses[k]? = some (senses[k]'hk) := List.getElem?_eq_getElem hk
  refine ⟨senses[k]'hk, ?_, ?_⟩
  · rw [Nat.add_comm 3 k]
    exact show (senses ++ rest)[k]? = _ from (List.getElem?_append_left hk).trans sense
  · have byte : (senses.map fun c => c.byte)[k]? = some (senses[k]'hk).byte := by
      rw [List.getElem?_map, sense]
      rfl
    rw [BitVec.getLsbD_ofNat, senseOf_testBit _ k j _ byte hj, decide_eq_true (by omega), Bool.true_and]

theorem TileSize.ofCode_other {v : Byte} (n16 : v ≠ 16) (n32 : v ≠ 32) (n64 : v ≠ 64) : TileSize.ofCode v = none :=
  (if_neg n16).trans ((if_neg n32).trans (if_neg n64))

/-! ## The slot end (R111 to R116) -/

theorem exec_slotEnd {s : State} (attends : s.attends = true) (l : Loop) (window : List RxChar) :
    exec (.slotEnd l window) s = .next (s.endSlot l window) :=
  State.takesAfterDue_of_attends attends fun u => u.endSlot l window

theorem State.endSlot_idle {s : State} {l : Loop} (idle : (s.loop l).transfer = none) (window : List RxChar) :
    s.endSlot l window = s := by
  rw [State.endSlot, idle]

theorem State.endSlot_done {s : State} {l : Loop} {t : Transfer} (sends : (s.loop l).transfer = some t)
    (done : t.remaining = []) (window : List RxChar) : s.endSlot l window = s := by
  simp only [State.endSlot, sends, done]

section SlotEnd

variable {s : State} {l : Loop} {t : Transfer} {slot : Fin 32} {rest : List (Fin 32)}
  (sends : (s.loop l).transfer = some t) (remaining : t.remaining = slot :: rest)
include sends remaining

theorem State.endSlot_stopping (stopping : (s.loop l).state = .stopping) (window : List RxChar) :
    s.endSlot l window = s.endTransfer l t slot rest (tileReplyOf window).isSome := by
  simp only [State.endSlot, sends, remaining, stopping]

theorem State.endSlot_running (running : (s.loop l).state = .running) (window : List RxChar) :
    s.endSlot l window =
      (s.endTransfer l t slot rest (tileReplyOf window).isSome).runningSlotEnd l slot (tileReplyOf window) := by
  simp only [State.endSlot, sends, remaining, running]

end SlotEnd

/-- Settles O44: the window by the eleven characters it has or lacks, the slot end by the transfer and the loop state. -/
theorem slotEndsAreCarriedOn : Obligations.SlotEndsAreCarriedOn := by
  refine ⟨fun window broken => tileReplyOf_eq_none ?_,
    fun window eleven marker stops => tileReplyOf_eq_some ⟨eleven, marker, stops⟩,
    ⟨rfl, rfl, rfl, fun v => TileSize.ofCode_other⟩, fun s l window attends => ?_⟩
  · rintro ⟨eleven, marker, stops⟩
    rcases broken with short | unmarked | ⟨c, among, framing⟩
    · omega
    · exact unmarked marker
    · exact Bool.false_ne_true (framing.symm.trans (stops c among))
  · rw [exec_slotEnd attends]
    refine ⟨fun idle => ?_, fun t sends done => ?_, fun t slot rest sends remaining => ?_⟩
    · rw [State.endSlot_idle idle]
    · rw [State.endSlot_done sends done]
    · intro ended
      have transferred : s.endTransfer l t slot rest (tileReplyOf window).isSome = s.withLoop l ended := by
        have word : s.nextWord l t.kind rest = ended.line := by
          cases rest with
          | nil => rfl
          | cons next more => cases kind : t.kind <;> simp [ended, State.nextWord, slotWord, State.sentFlags, kind]
        unfold State.endTransfer
        rw [word]
      refine ⟨fun stopping => ?_, fun running => ?_⟩
      · rw [State.endSlot_stopping sends remaining stopping, transferred]
      · rw [State.endSlot_running sends remaining running, transferred, State.runningSlotEnd, State.loop_withLoop,
          State.withLoop_withLoop]
        rfl

/-! ## The frame end (R103, R109) -/

theorem Bank.map_eq_make {n : Nat} {α β : Type} (f : α → β) (b : Bank n α) :
    b.map f = Bank.make fun i => f (b.get i) :=
  Bank.ext_get fun i => by rw [Bank.get_map, Bank.get_make]

theorem exec_frameEnd {s : State} (attends : s.attends = true) (l : Loop) :
    exec (.frameEnd l) s = .next (s.endFrame l) :=
  State.takesAfterDue_of_attends attends fun u => u.endFrame l

theorem State.frameEndDue_iff (s : State) (l : Loop) :
    s.frameEndDue l = true ↔ ∃ t, (s.loop l).transfer = some t ∧ t.remaining = [] := by
  unfold State.frameEndDue
  split
  · next idle => simp [idle]
  · next t sends => simp [sends]

theorem State.endFrame_undue {s : State} {l : Loop} (undue : ¬ s.frameEndDue l = true) : s.endFrame l = s :=
  if_neg undue

theorem State.endFrame_running {s : State} {l : Loop} (due : s.frameEndDue l = true)
    (running : (s.loop l).state = .running) : s.endFrame l = s.withLoop l (s.loop l).normalEnd := by
  simp only [State.endFrame, due, running, if_true]

theorem State.endFrame_stopping {s : State} {l : Loop} (due : s.frameEndDue l = true)
    (stopping : (s.loop l).state = .stopping) :
    s.endFrame l = { s.withLoop l (s.loop l).normalEnd.stop with composer := s.composer.drop l } := by
  have stopped : s.endFrame l = (s.withLoop l (s.loop l).normalEnd).stopLoop l := by
    simp only [State.endFrame, due, stopping, if_true]
  rw [stopped, State.stopLoop, State.loop_withLoop, State.withLoop_withLoop]
  simp

/-- Settles O47: a frame end by whether it is due and by the loop state. -/
theorem framesEnd : Obligations.FramesEnd := by
  refine ⟨fun c => ?_, fun s l attends => ?_⟩
  · unfold LoopController.stop
    rw [Bank.map_eq_make]
    rfl
  · rw [exec_frameEnd attends]
    refine ⟨fun idle => ?_, fun t sends => ⟨fun more => ?_, fun done => ?_⟩⟩
    · rw [State.endFrame_undue]
      rw [State.frameEndDue_iff]
      rintro ⟨t, sends, -⟩
      cases idle.symm.trans sends
    · rw [State.endFrame_undue]
      rw [State.frameEndDue_iff]
      rintro ⟨u, again, done⟩
      cases sends.symm.trans again
      exact more done
    · have due : s.frameEndDue l = true := (s.frameEndDue_iff l).mpr ⟨t, sends, done⟩
      refine ⟨fun running => ?_, fun stopping => ?_⟩
      · rw [State.endFrame_running due running]
        rfl
      · rw [State.endFrame_stopping due stopping]
        rfl

end Sys2Proof.Machine

/-!
PROOFS. The NORMAL frame start (O43): the slot words' flags, the map latch with its TILE entries, the header.
-/

namespace Sys2Proof.Machine

/-! ## Flags on the loop line (R183) -/

theorem flagBytes_getLsbD (f : Flags) {k j : Nat} (hk : k < 8) (hj : j < 8) :
    ∃ b : Byte, (flagBytes f)[k]? = some b ∧ b.getLsbD j = f.getLsbD (8 * k + j) := by
  refine ⟨byteOf (f.toNat / 2 ^ (8 * k)), ?_, ?_⟩
  · rw [flagBytes, List.getElem?_map, List.getElem?_range hk]
    rfl
  · rw [byteOf, BitVec.getLsbD_ofNat, decide_eq_true hj, Bool.true_and, Nat.testBit_div_two_pow, BitVec.testBit_toNat,
      Nat.add_comm]

/-! ## The frame timer (R104) -/

theorem exec_frameTimerExpiry {s : State} (takes : s.takesExpiries = true) (l : Loop) :
    exec (.frameTimerExpiry l) s = .next (s.expireFrameTimer l) :=
  State.takesAfterFollowUps_of_takesExpiries takes (State.expireFrameTimer l)

theorem State.frameTimerDue_iff (s : State) (l : Loop) :
    s.frameTimerDue l = true ↔ (s.loop l).timer = .expired ∧ (s.loop l).startPending = false := by
  simp [State.frameTimerDue]

/-! ## The map latch (R107) -/

/-- A tile enabled while DISABLED awaits its replies; one disabled in any other state becomes DISABLED; any other is in
step already. -/
theorem Tile.latched_eq (t : Tile) :
    t.latched =
      if t.enabled = true ∧ t.state = .disabled then { t with state := .joining }
      else if t.enabled = false ∧ t.state ≠ .disabled then
        { t with state := .disabled, missStreak := 0, replyStreak := 0, driveFault := false }
      else t := by
  unfold Tile.latched
  cases enabled : t.enabled <;> by_cases disabled : t.state = .disabled <;>
    simp [enabled, disabled, Tile.cleared]

/-- A latch that moves a tile changes its state. -/
theorem Tile.latched_cases (t : Tile) : t.latched = t ∨ t.state ≠ t.latched.state := by
  rw [Tile.latched_eq]
  split
  · next joins => exact .inr (by simp [joins.2])
  · split
    · next leaves => exact .inr leaves.2
    · exact .inl rfl

theorem Tile.latched_same_iff (t : Tile) :
    (t.state = t.latched.state ∧ t.driveFault = t.latched.driveFault) ↔ t.latched = t := by
  rcases t.latched_cases with same | moved
  · simp [same]
  · exact iff_of_false (fun kept => moved kept.1) fun same => moved (congrArg Tile.state same).symm

/-- The offers of a list of slots leave all but the journal. -/
theorem State.offers_eq_withJournal {α : Type} (o : α → Offer) (ns : List α) : ∀ s : State,
    ns.foldl (fun t n => t.offer (o n)) s = { s with journal := (ns.foldl (fun t n => t.offer (o n)) s).journal } := by
  induction ns with
  | nil => exact fun _ => rfl
  | cons n rest ih =>
    intro s
    rw [List.foldl_cons, ih, State.offer_eq_withJournal]

/-- What a list of offers does to the journal hangs on the journal and the time counter alone. -/
theorem State.offers_journal_congr {α : Type} (o : α → Offer) (ns : List α) : ∀ {s t : State},
    s.journal = t.journal → s.cadence = t.cadence →
    (ns.foldl (fun u n => u.offer (o n)) s).journal = (ns.foldl (fun u n => u.offer (o n)) t).journal := by
  induction ns with
  | nil => exact fun j _ => j
  | cons n rest ih =>
    intro s t j c
    exact ih (State.offer_journal_congr j c _) (by simpa using c)

/-- The TILE entry of a slot that a latch moves (R107, R117). -/
def Offer.latchedTile (l : Loop) (tiles : Bank 32 Tile) (slot : Fin 32) : Offer :=
  ⟨.tile, loopSource l, .tile l slot, (tiles.get slot).code, (tiles.get slot).latched.code, [], none⟩

/-- The slots whose tiles a latch moves, ascending. -/
def slotsMoved (tiles : Bank 32 Tile) : List (Fin 32) :=
  (List.finRange 32).filter fun slot => (tiles.get slot).latched ≠ tiles.get slot

/-- A latch offers one entry for each slot it moves. -/
theorem State.offerLatched_eq (s : State) (l : Loop) (tiles : Bank 32 Tile) :
    s.offerLatched l tiles = (slotsMoved tiles).foldl (fun t slot => t.offer (.latchedTile l tiles slot)) s := by
  rw [State.offerLatched, slotsMoved, List.foldl_filter]
  congr 1
  funext t slot
  rw [State.offerTile, ite_congr (propext (Tile.latched_same_iff _)) (fun _ => rfl) fun _ => rfl]
  by_cases same : (tiles.get slot).latched = tiles.get slot
  · simp [same]
  · simp [same, Offer.latchedTile]

theorem slotsOf_mapOf (tiles : Bank 32 Tile) :
    slotsOf (mapOf tiles) = (List.finRange 32).filter fun slot => (tiles.get slot).enabled := by
  refine List.filter_congr fun slot _ => ?_
  rw [mapOf, Bank.get_map]
  cases (tiles.get slot).enabled <;> rfl

/-! ## The frame start (R106) -/

theorem exec_frameStart {s : State} (running : s.inReset = false) (undue : s.passDue = false) (l : Loop) :
    exec (.frameStart l) s = .next (s.startFrame l) :=
  State.takesAfterPassStart_of_undue running undue (State.startFrame l)

theorem State.frameStartDue_iff (s : State) (l : Loop) :
    s.frameStartDue l = true ↔ (s.loop l).startPending = true ∧ (s.loop l).transfer = none ∧
      ((s.loop l).state = .running ∨ (s.loop l).state = .testing) := by
  simp [State.frameStartDue, and_assoc]

/-- The characters of a NORMAL frame's start: its header, and the slot word of its first slot (R108, R111). -/
def startLine (front : Image) (slots : List (Fin 32)) : List Byte :=
  headerBytes .normal front.intensity ++
    match slots with
    | [] => []
    | slot :: _ => slotWord slot (front.flags.get slot)

/-- A header for a loop that has just started a NORMAL frame. -/
theorem State.sendHeader_normal {s : State} {l : Loop} {intensity : Fin 16} {slots : List (Fin 32)}
    (sends : (s.loop l).transfer = some ⟨.normal, intensity, slots⟩) (front : (s.loop l).front.intensity = intensity) :
    s.sendHeader l = s.withLoop l { s.loop l with line := startLine (s.loop l).front slots } := by
  subst front
  unfold State.sendHeader
  rw [sends]
  cases slots <;> rfl

/-- A NORMAL frame start, part by part. -/
theorem State.startNormalFrame_eq (s : State) (l : Loop) :
    s.startNormalFrame l =
      { s.withLoop l
          { (s.loop l).normalStart with
            line := startLine (s.loop l).normalStart.front (slotsOf (mapOf (s.loop l).tiles)) } with
        composer := if (s.loop l).backComplete then s.composer.ask l else s.composer
        journal := (s.offerLatched l (s.loop l).tiles).journal } := by
  let started := s.withLoop l (s.loop l).normalStart
  let told : State := { started with journal := (s.offerLatched l (s.loop l).tiles).journal }
  let asked : State := { told with composer := if (s.loop l).backComplete then s.composer.ask l else s.composer }
  have tells : started.offerLatched l (s.loop l).tiles = told := by
    have journal : (started.offerLatched l (s.loop l).tiles).journal = told.journal := by
      simp only [told, State.offerLatched_eq]
      exact State.offers_journal_congr _ _ (by simp [started]) (by simp [started])
    rw [State.offerLatched_eq, State.offers_eq_withJournal, ← State.offerLatched_eq, journal]
  have asks : (if (s.loop l).backComplete then told.askCompose l else told) = asked := by
    have composer : told.composer = s.composer := by simp [told, started]
    cases complete : (s.loop l).backComplete <;> simp [asked, complete, State.askCompose, ← composer]
  have loop : asked.loop l = (s.loop l).normalStart := by cases l <;> rfl
  have header : asked.sendHeader l = asked.withLoop l
      { (s.loop l).normalStart with
        line := startLine (s.loop l).normalStart.front (slotsOf (mapOf (s.loop l).tiles)) } := by
    rw [State.sendHeader_normal (by rw [loop]; rfl) (by rw [loop]; rfl), loop]
  calc s.startNormalFrame l
    _ = (if (s.loop l).backComplete then (started.offerLatched l (s.loop l).tiles).askCompose l
          else started.offerLatched l (s.loop l).tiles).sendHeader l := rfl
    _ = asked.withLoop l _ := by rw [tells, asks, header]
    _ = _ := by cases l <;> rfl

/-- Settles O43: the timer's expiry and the frame start by whether they are due, and a NORMAL start part by part. -/
theorem normalFramesStart : Obligations.NormalFramesStart := by
  refine ⟨fun f k j => flagBytes_getLsbD f, fun s l takes => ?_, fun s l running undue => ⟨fun stays => ?_, ?_⟩⟩
  · rw [exec_frameTimerExpiry takes]
    refine ⟨fun stays => ?_, fun expired free => ?_⟩
    · rw [State.expireFrameTimer_undue]
      rw [← Bool.not_eq_true, State.frameTimerDue_iff]
      rintro ⟨expired, free⟩
      rcases stays with counting | pending
      · exact counting expired
      · exact Bool.false_ne_true (free.symm.trans pending)
    · rw [State.expireFrameTimer, if_pos ((s.frameTimerDue_iff l).mpr ⟨expired, free⟩)]
  · rw [exec_frameStart running undue, State.startFrame_undue]
    rw [← Bool.not_eq_true, State.frameStartDue_iff]
    rintro ⟨pending, idle, goesOn⟩
    rcases stays with free | sends | stopped | stopping
    · exact Bool.false_ne_true (free.symm.trans pending)
    · exact sends idle
    · simp [stopped] at goesOn
    · simp [stopping] at goesOn
  · intro pending idle goesOn front stepped slots changed code
    have due : s.frameStartDue l = true := (s.frameStartDue_iff l).mpr ⟨pending, idle, .inl goesOn⟩
    have starts : s.startFrame l = s.startNormalFrame l := by
      simp only [State.startFrame, due, goesOn, if_true]
    have moves : stepped = fun slot => ((s.loop l).tiles.get slot).latched :=
      funext fun slot => (Tile.latched_eq _).symm
    have tiles : (s.loop l).tiles.map Tile.latched = Bank.make stepped := by rw [Bank.map_eq_make, moves]
    have latched : mapOf (s.loop l).tiles = Bank.make fun slot =>
        if ((s.loop l).tiles.get slot).enabled then some ((s.loop l).tiles.get slot).size else none :=
      Bank.map_eq_make _ _
    have present : slotsOf (mapOf (s.loop l).tiles) = slots := slotsOf_mapOf _
    have entries : s.offerLatched l (s.loop l).tiles =
        changed.foldl (fun t slot => t.offer ⟨.tile, loopSource l, .tile l slot, code ((s.loop l).tiles.get slot),
          code (stepped slot), [], none⟩) s := by
      simp only [changed, moves]
      exact s.offerLatched_eq l (s.loop l).tiles
    rw [exec_frameStart running undue, starts, State.startNormalFrame_eq, LoopController.normalStart, present,
      latched, tiles, entries]
    rfl

end Sys2Proof.Machine

/-!
PROOFS. What READ LOOP STATUS, READ OUTSTATIONS and READ LAMP FAULTS answer with (O15).
-/

namespace Sys2Proof.Machine

/-! ## READ LOOP STATUS (R120, Table 11-16) -/

theorem readLoopStatusAnswer_loopIndex (l : Loop) (s : State) :
    readLoopStatusAnswer (byteOf (loopIndex l)) s =
      { state := s
        payload :=
          [byteOf (loopIndex l), byteOf (s.loop l).state.code] ++ halfBytes (s.loop l).period ++
            [flagByte (s.loop l).repeated, flagByte (s.loop l).transfer.isSome, byteOf s.intensity.val] ++
            (List.finRange 32).flatMap (s.loop l).slotBytes } := by
  rw [readLoopStatusAnswer, loopOfCode_loopIndex]

/-! ## The outstations of a page (R147, Table 11-18) -/

theorem Bank.rows_eq_map_get {n : Nat} {α : Type} (b : Bank n α) : b.rows = (List.finRange n).map b.get := by
  have made : b = Bank.make b.get := Bank.ext_get fun i => (Bank.get_make b.get i).symm
  calc
    b.rows = List.ofFn b.get := congrArg Bank.rows made
    _ = (List.finRange n).map b.get := List.ofFn_eq_map

theorem readOutstationsAnswer_page (first : Fin 128) {count : Byte} (least : 1 ≤ count.toNat)
    (most : count.toNat ≤ 128) (s : State) :
    readOutstationsAnswer (byteOf first.val) count s =
      { state := s
        payload :=
          [byteOf s.supervision.link.mode.code, byteOf s.supervision.link.period, s.supervision.link.state.code,
            byteOf s.supervision.link.countdown.seconds, byteOf (min count.toNat (128 - first.val))] ++
            (((List.finRange 128).drop first.val).take count.toNat).flatMap fun n =>
              (s.supervision.outstations.get n).bytes } := by
  have number : (byteOf first.val).toNat = first.val := toNat_byteOf (by omega)
  refine (if_pos ⟨number.symm ▸ first.isLt, least, most⟩).trans ?_
  simp only [number, Bank.rows_eq_map_get, ← List.map_drop, ← List.map_take, List.flatMap_map, List.length_map,
    List.length_take, List.length_drop, List.length_finRange]

/-! ## The faulty lamps of a table (R135, Table 7-7) -/

theorem Sparse.mem_cells_iff {α : Type} {t : Sparse α} (h : t.wf) (k : Nat) (a : α) :
    (k, a) ∈ t.cells ↔ t.get? k = some a := by
  obtain ⟨cells⟩ := t
  induction cells with
  | nil => simp [Sparse.get?, Sparse.find]
  | cons c rest ih =>
    obtain ⟨j, b⟩ := c
    obtain ⟨first, later⟩ := List.pairwise_cons.mp h
    simp only [Sparse.get?, Sparse.find] at ih ⊢
    by_cases e : j = k
    · subst e
      have absent : (j, a) ∉ rest := fun m => Nat.lt_irrefl j (first j (List.mem_map_of_mem m))
      simp [absent, eq_comm]
    · rw [if_neg e, ← ih later]
      simp [Ne.symm e]

/-- The numbers of the faulty lamps, ascending. -/
def faultyNumbers (t : Sparse ProvingRecord) : List (Fin 4096) :=
  (List.finRange 4096).filter fun n => (provingOf t n.val).verdict.faulty

/-- A faulty lamp as it is listed: its number and its verdict. -/
def listedLamp (t : Sparse ProvingRecord) (n : Fin 4096) : Nat × Verdict :=
  (n.val, (provingOf t n.val).verdict)

theorem mem_faultyNumbers {t : Sparse ProvingRecord} {n : Fin 4096} :
    n ∈ faultyNumbers t ↔ (provingOf t n.val).verdict.faulty = true := by
  simp [faultyNumbers]

/-- A lamp with a faulty verdict is listed, since an unlisted one is UNPROVEN. -/
theorem get?_of_faulty {t : Sparse ProvingRecord} {lamp : Nat} (h : (provingOf t lamp).verdict.faulty = true) :
    t.get? lamp = some (provingOf t lamp) := by
  unfold provingOf at h ⊢
  cases listed : t.get? lamp with
  | none =>
    rw [listed] at h
    exact absurd h (by decide)
  | some r => rfl

theorem provingOf_of_get? {t : Sparse ProvingRecord} {lamp : Nat} {r : ProvingRecord} (h : t.get? lamp = some r) :
    provingOf t lamp = r := by
  rw [provingOf, h]
  rfl

theorem mem_faultyLamps {t : Sparse ProvingRecord} (h : t.wf) {c : Nat × Verdict} :
    c ∈ faultyLamps t ↔ (provingOf t c.1).verdict.faulty = true ∧ c.2 = (provingOf t c.1).verdict := by
  simp only [faultyLamps, List.mem_map, List.mem_filter]
  constructor
  · rintro ⟨⟨lamp, r⟩, ⟨listed, faulty⟩, rfl⟩
    rw [provingOf_of_get? ((Sparse.mem_cells_iff h lamp r).mp listed)]
    exact ⟨faulty, rfl⟩
  · rintro ⟨faulty, verdict⟩
    exact ⟨(c.1, provingOf t c.1), ⟨(Sparse.mem_cells_iff h _ _).mpr (get?_of_faulty faulty), faulty⟩,
      Prod.ext rfl verdict.symm⟩

theorem pairwise_faultyLamps {t : Sparse ProvingRecord} (h : t.wf) :
    (faultyLamps t).Pairwise fun a b => a.1 < b.1 := by
  have cells : t.cells.Pairwise fun a b => a.1 < b.1 := List.pairwise_map.mp h
  exact List.pairwise_map.mpr (cells.filter _)

theorem pairwise_listedLamps (t : Sparse ProvingRecord) :
    ((faultyNumbers t).map (listedLamp t)).Pairwise fun a b => a.1 < b.1 :=
  List.pairwise_map.mpr ((List.pairwise_lt_finRange 4096).filter _)

/-- The cells of a lawful table, filtered, are the lamp numbers, filtered: both ascend and hold the same lamps. -/
theorem faultyLamps_eq_map {t : Sparse ProvingRecord} (h : t.wf) (range : ∀ c ∈ t.cells, c.1 < 4096) :
    faultyLamps t = (faultyNumbers t).map (listedLamp t) := by
  have : Std.Asymm fun a b : Nat × Verdict => a.1 < b.1 := ⟨fun _ _ => Nat.lt_asymm⟩
  have : Std.Irrefl fun a b : Nat × Verdict => a.1 < b.1 := ⟨fun _ => Nat.lt_irrefl _⟩
  refine (pairwise_faultyLamps h).eq_of_mem_iff (pairwise_listedLamps t) fun c => ?_
  rw [mem_faultyLamps h, List.mem_map]
  constructor
  · rintro ⟨faulty, verdict⟩
    have lt : c.1 < 4096 := range _ ((Sparse.mem_cells_iff h _ _).mpr (get?_of_faulty faulty))
    exact ⟨⟨c.1, lt⟩, mem_faultyNumbers.mpr faulty, Prod.ext rfl verdict.symm⟩
  · rintro ⟨n, faulty, rfl⟩
    exact ⟨mem_faultyNumbers.mp faulty, rfl⟩

/-! ## READ LAMP FAULTS (R135, Table 7-7) -/

/-- The payload of READ LAMP FAULTS for the lamps `wanted` from the start lamp on, `total` lamps being faulty; the next
lamp number is 0xFFFF when one page holds them all. -/
def lampPage (total : Nat) (wanted : List (Nat × Verdict)) : List Byte :=
  halfBytes total ++ halfBytes (min 256 wanted.length) ++
    halfBytes (if wanted.length ≤ 256 then 0xFFFF else ((wanted.take 256).getLast?.elim 0 fun c => c.1 + 1)) ++
    (wanted.take 256).flatMap fun c => halfBytes c.1 ++ [byteOf c.2.code]

theorem readLampFaultsAnswer_page {start : Half} (lt : start.toNat < 4096) (s : State) :
    readLampFaultsAnswer start s =
      { state := s
        payload :=
          lampPage (faultyLamps s.proving).length
            ((faultyLamps s.proving).filter fun c => start.toNat ≤ c.1) } := by
  refine (if_pos lt).trans ?_
  dsimp only
  generalize (faultyLamps s.proving).filter (fun c => decide (start.toNat ≤ c.1)) = wanted
  simp only [lampPage, List.length_take]
  by_cases fits : wanted.length ≤ 256
  · simp only [List.drop_eq_nil_of_le fits, if_pos fits]
  · obtain ⟨c, rest, left⟩ : ∃ c rest, wanted.drop 256 = c :: rest :=
      List.exists_cons_of_ne_nil (by simpa using Nat.lt_of_not_le fits)
    have page : wanted.take 256 ≠ [] := List.ne_nil_of_length_pos (by rw [List.length_take]; omega)
    simp only [left, if_neg fits, List.getLast?_eq_some_getLast page, Option.elim_some]

theorem toNat_ofFin4096 (n : Fin 4096) : (BitVec.ofNat 16 n.val).toNat = n.val := by
  rw [BitVec.toNat_ofNat, Nat.mod_eq_of_lt (by omega)]

theorem lampPage_map_listedLamp (t : Sparse ProvingRecord) (total : Nat) (wanted : List (Fin 4096)) :
    lampPage total (wanted.map (listedLamp t)) =
      halfBytes total ++ halfBytes (min 256 wanted.length) ++
        halfBytes (if wanted.length ≤ 256 then 0xFFFF else ((wanted.take 256).getLast?.elim 0 fun n => n.val + 1)) ++
        (wanted.take 256).flatMap fun n => halfBytes n.val ++ [byteOf (provingOf t n.val).verdict.code] := by
  simp only [lampPage, ← List.map_take, List.length_map, List.getLast?_map, Option.elim_map, List.flatMap_map,
    Function.comp_def, listedLamp]

/-- The lamps listed from a start lamp on, through their numbers. -/
theorem filter_faultyLamps {t : Sparse ProvingRecord} (h : t.wf) (range : ∀ c ∈ t.cells, c.1 < 4096) (start : Nat) :
    (faultyLamps t).filter (fun c => start ≤ c.1) =
      ((faultyNumbers t).filter fun n => start ≤ n.val).map (listedLamp t) := by
  rw [faultyLamps_eq_map h range]
  exact List.filter_map

theorem readLampFaultsAnswer_lists (start : Fin 4096) {s : State} (h : s.proving.wf)
    (range : ∀ c ∈ s.proving.cells, c.1 < 4096) :
    readLampFaultsAnswer (BitVec.ofNat 16 start.val) s =
      { state := s
        payload :=
          lampPage (faultyNumbers s.proving).length
            (((faultyNumbers s.proving).filter fun n => start.val ≤ n.val).map (listedLamp s.proving)) } := by
  have number := toNat_ofFin4096 start
  rw [readLampFaultsAnswer_page (number.symm ▸ start.isLt), number, filter_faultyLamps h range,
    faultyLamps_eq_map h range, List.length_map]

/-- Settles O15: each owner answers from the state it leaves, and nothing stands between the owner and its reply. -/
theorem loopOutstationAndLampReadsReport : Obligations.LoopOutstationAndLampReadsReport := by
  intro s o
  refine ⟨fun l => ?_, fun first count least most => ?_, ?_⟩
  · exact State.request_taken (r := readLoopStatusRequest _) o (.readLoopStatus _) rfl
      (show (0x34 : Byte) ≠ resetKind by decide) (readLoopStatusAnswer_loopIndex l s)
  · exact State.request_taken (r := readOutstationsRequest _ count) o (.readOutstations _ count) rfl
      (show (0x43 : Byte) ≠ resetKind by decide) (readOutstationsAnswer_page first least most s)
  · intro start faulty wanted lawful range
    have answer := readLampFaultsAnswer_lists start lawful range
    rw [lampPage_map_listedLamp] at answer
    exact State.request_taken (r := readLampFaultsRequest _) o (.readLampFaults _) rfl
      (show (0x35 : Byte) ≠ resetKind by decide) answer

end Sys2Proof.Machine

/-!
PROOFS. The comparison of a slot (O46): the moves of a proving record (Table 7-6), the conditions of a comparison
(Table 7-3), the records and the LAMP entry it leaves (R127, R130, R131).
-/

namespace Sys2Proof.Machine

/-! ## Streaks (R128) -/

/-- A fault step by the streak it counts to. -/
theorem ProvingRecord.faultStep_eq {r : ProvingRecord} {k : FaultKind} {n : Nat}
    (count : (if r.kind = some k then r.streak + 1 else 1) = n) :
    r.faultStep k = if n = 3 then ⟨k.verdict, 0, none⟩ else ⟨r.verdict, n, some k⟩ := by
  subst count
  rfl

theorem ProvingRecord.faultStep_other {r : ProvingRecord} {k : FaultKind} (other : r.kind ≠ some k) :
    r.faultStep k = ⟨r.verdict, 1, some k⟩ :=
  (faultStep_eq (if_neg other)).trans (if_neg (by decide))

theorem ProvingRecord.faultStep_same {r : ProvingRecord} {k : FaultKind} (same : r.kind = some k)
    (few : r.streak < 2) : r.faultStep k = ⟨r.verdict, r.streak + 1, some k⟩ :=
  (faultStep_eq (if_pos same)).trans (if_neg (by omega))

theorem ProvingRecord.faultStep_third {r : ProvingRecord} {k : FaultKind} (same : r.kind = some k)
    (two : r.streak = 2) : r.faultStep k = ⟨k.verdict, 0, none⟩ :=
  (faultStep_eq (if_pos same)).trans (if_pos (by omega))

theorem ProvingRecord.recoveryStep_of_lt {r : ProvingRecord} (few : r.streak < 2) :
    r.recoveryStep = { r with streak := r.streak + 1 } :=
  if_neg (by omega)

theorem ProvingRecord.recoveryStep_third {r : ProvingRecord} (two : r.streak = 2) :
    r.recoveryStep = ⟨.good, 0, none⟩ :=
  if_pos (by omega)

/-- Under DARK and LIT the streak has no kind (R125). -/
theorem ProvingRecord.Lawful.withStreak_eq {r : ProvingRecord} (h : r.Lawful) {v : Verdict} (is : r.verdict = v)
    (faulty : v = .dark ∨ v = .lit) (n : Nat) : { r with streak := n } = (⟨v, n, none⟩ : ProvingRecord) := by
  obtain ⟨-, kind⟩ := h
  subst is
  have uncounted : ¬ (r.verdict = .unproven ∨ r.verdict = .good) := by rcases faulty with e | e <;> rw [e] <;> decide
  have absent : r.kind = none := Option.not_isSome_iff_eq_none.mp fun counted => uncounted (kind.mp counted).1
  rw [absent]

/-! ## Table 7-6, row by row -/

theorem ProvingRecord.observe_unproven {r : ProvingRecord} (v : r.verdict = .unproven) :
    r.observe .onGood = ⟨.good, 0, none⟩ ∧ r.observe .offGood = r := by
  obtain ⟨verdict, streak, kind⟩ := r
  cases v
  exact ⟨rfl, rfl⟩

theorem ProvingRecord.observe_good {r : ProvingRecord} (v : r.verdict = .good) :
    r.observe .onGood = ⟨.good, 0, none⟩ ∧ r.observe .offGood = ⟨.good, 0, none⟩ := by
  obtain ⟨verdict, streak, kind⟩ := r
  cases v
  exact ⟨rfl, rfl⟩

theorem ProvingRecord.observe_fault {r : ProvingRecord} (v : r.verdict = .unproven ∨ r.verdict = .good) :
    r.observe .darkFault = r.faultStep .dark ∧ r.observe .litFault = r.faultStep .lit := by
  obtain ⟨verdict, streak, kind⟩ := r
  rcases v with v | v <;> cases v <;> exact ⟨rfl, rfl⟩

theorem ProvingRecord.observe_dark {r : ProvingRecord} (v : r.verdict = .dark) :
    r.observe .onGood = r.recoveryStep ∧ r.observe .offGood = r ∧
      r.observe .darkFault = { r with streak := 0 } ∧ r.observe .litFault = r := by
  obtain ⟨verdict, streak, kind⟩ := r
  cases v
  exact ⟨rfl, rfl, rfl, rfl⟩

theorem ProvingRecord.observe_lit {r : ProvingRecord} (v : r.verdict = .lit) :
    r.observe .offGood = r.recoveryStep ∧ r.observe .onGood = r ∧
      r.observe .litFault = { r with streak := 0 } ∧ r.observe .darkFault = r := by
  obtain ⟨verdict, streak, kind⟩ := r
  cases v
  exact ⟨rfl, rfl, rfl, rfl⟩

/-! ## The conditions of a comparison and what it does (R126, R130, R131, Table 7-3) -/

theorem SlotReport.comparable_iff {r : SlotReport} {w : TileReply} (replied : r.reply = some w) :
    r.comparable = true ↔
      (w.size = r.latched ∧ r.latched ≠ none) ∧ w.driveFault = false ∧ r.prevReply = true ∧ r.before = .present ∧
        r.after = .present := by
  obtain ⟨loop, slot, reply, latched, before, after, prevReply, commanded⟩ := r
  cases replied
  exact decide_eq_true_iff.trans (by rw [TileReply.rightSize_eq, decide_eq_true_iff])

theorem State.compareSlot_unanswered {r : SlotReport} (silent : r.reply = none) (s : State) :
    s.compareSlot r = s := by
  obtain ⟨loop, slot, reply, latched, before, after, prevReply, commanded⟩ := r
  cases silent
  rfl

/-- The LAMP entry of a comparison that leaves the records `t` and changed the verdicts of `items` (R131). -/
def Offer.lamp (r : SlotReport) (t : Sparse ProvingRecord) (items : List (Fin 64 × Verdict)) : Offer :=
  ⟨.lamp, loopSource r.loop, .tile r.loop r.slot, byteOf items.length,
    byteOf (faultyOutputs t r.loop r.slot.val), items, none⟩

theorem State.compareSlot_answered {r : SlotReport} {w : TileReply} (replied : r.reply = some w) (s : State) :
    s.compareSlot r =
      if r.comparable = true then
        if r.changes w.sense s.proving = [] then { s with proving := r.moved w.sense s.proving }
        else
          ({ s with proving := r.moved w.sense s.proving } : State).offer
            (.lamp r (r.moved w.sense s.proving) (r.changes w.sense s.proving))
      else s := by
  obtain ⟨loop, slot, reply, latched, before, after, prevReply, commanded⟩ := r
  cases replied
  rfl

/-! ## The records after a comparison (R127) -/

theorem provingOf_putAll_of_ne {α : Type} (lamp : α → Nat) (new : α → ProvingRecord) {n : Nat} (os : List α) :
    ∀ t : Sparse ProvingRecord, (∀ o ∈ os, n ≠ lamp o) →
      provingOf (os.foldl (fun u o => putProving u (lamp o) (new o)) t) n = provingOf t n := by
  induction os with
  | nil => exact fun _ _ => rfl
  | cons o rest ih =>
    intro t apart
    obtain ⟨first, later⟩ := List.forall_mem_cons.mp apart
    rw [List.foldl_cons, ih _ later, provingOf_putProving, if_neg first.symm]

theorem provingOf_putAll_of_mem {α : Type} {lamp : α → Nat} (inj : lamp.Injective) (new : α → ProvingRecord) {o : α}
    (os : List α) : ∀ t : Sparse ProvingRecord, o ∈ os →
      provingOf (os.foldl (fun u o => putProving u (lamp o) (new o)) t) (lamp o) = new o := by
  induction os with
  | nil => exact fun _ among => absurd among List.not_mem_nil
  | cons first rest ih =>
    intro t among
    by_cases again : o ∈ rest
    · exact ih _ again
    · obtain rfl : o = first := (List.mem_cons.mp among).resolve_right again
      have apart : ∀ p ∈ rest, lamp o ≠ lamp p := fun p later same => again (inj same ▸ later)
      rw [List.foldl_cons, provingOf_putAll_of_ne lamp new rest _ apart, provingOf_putProving, if_pos rfl]

theorem SlotReport.lamp_injective (r : SlotReport) : Function.Injective fun o : Fin 64 => r.lamp o.val :=
  fun _ _ same => Fin.ext (Nat.add_left_cancel same)

theorem SlotReport.outputs_eq {r : SlotReport} {z : TileSize} (latched : r.latched = some z) :
    r.outputs = (List.finRange 64).filter fun o => o.val < z.outputs := by
  obtain ⟨loop, slot, reply, size, before, after, prevReply, commanded⟩ := r
  cases latched
  rfl

theorem SlotReport.mem_outputs {r : SlotReport} {z : TileSize} (latched : r.latched = some z) {o : Fin 64} :
    o ∈ r.outputs ↔ o.val < z.outputs := by
  rw [SlotReport.outputs_eq latched, List.mem_filter, decide_eq_true_iff]
  exact and_iff_right (List.mem_finRange o)

theorem TileSize.outputs_le (z : TileSize) : z.outputs ≤ 64 := by
  cases z <;> decide

theorem SlotReport.provingOf_moved {r : SlotReport} {z : TileSize} (latched : r.latched = some z) (sense : Flags)
    (t : Sparse ProvingRecord) {o : Nat} (covered : o < z.outputs) :
    provingOf (r.moved sense t) (r.lamp o) =
      (provingOf t (r.lamp o)).observe (observationOf (r.commanded.getLsbD o) (sense.getLsbD o)) :=
  provingOf_putAll_of_mem r.lamp_injective (r.observed sense t) (o := ⟨o, covered.trans_le z.outputs_le⟩) r.outputs t
    ((SlotReport.mem_outputs latched).mpr covered)

theorem SlotReport.provingOf_moved_other {r : SlotReport} {z : TileSize} (latched : r.latched = some z) (sense : Flags)
    (t : Sparse ProvingRecord) {n : Nat} (other : ∀ o, o < z.outputs → n ≠ r.lamp o) :
    provingOf (r.moved sense t) n = provingOf t n :=
  provingOf_putAll_of_ne (fun o : Fin 64 => r.lamp o.val) (r.observed sense t) r.outputs t fun o among =>
    other o.val ((SlotReport.mem_outputs latched).mp among)

/-! ## The changed verdicts (R130) -/

/-- The outputs below the latched size whose verdict a comparison changes, ascending. -/
def SlotReport.changed (r : SlotReport) (z : TileSize) (sense : Flags) (t : Sparse ProvingRecord) : List (Fin 64) :=
  (List.finRange 64).filter fun o =>
    decide (o.val < z.outputs ∧ (r.observed sense t o).verdict ≠ (provingOf t (r.lamp o.val)).verdict)

theorem SlotReport.changes_eq {r : SlotReport} {z : TileSize} (latched : r.latched = some z) (sense : Flags)
    (t : Sparse ProvingRecord) :
    r.changes sense t = (r.changed z sense t).map fun o => (o, (r.observed sense t o).verdict) := by
  have kept : (r.outputs.filter fun o => (r.observed sense t o).verdict ≠ (provingOf t (r.lamp o.val)).verdict) =
      r.changed z sense t := by
    rw [SlotReport.outputs_eq latched, List.filter_filter]
    exact List.filter_congr fun o _ => (Bool.and_comm _ _).trans (Bool.decide_and _ _).symm
  exact congrArg (List.map _) kept

/-- Settles O46: a record by its verdict and streak, a slot by the conditions of Table 7-3, its report by the list of
changed verdicts. -/
theorem comparisonsMoveTheProvingRecords : Obligations.ComparisonsMoveTheProvingRecords := by
  refine ⟨⟨rfl, rfl, rfl, rfl⟩, fun r lawful => ⟨ProvingRecord.observe_unproven, ProvingRecord.observe_good,
    fun v => ?_, fun v => ?_, fun counts => ?_⟩,
    fun s r => ⟨fun silent => State.compareSlot_unanswered silent s, fun w replied => ⟨fun fails => ?_, ?_⟩⟩⟩
  · obtain ⟨recovers, offGood, faults, litFault⟩ := ProvingRecord.observe_dark v
    have streak := lawful.withStreak_eq v (.inl rfl)
    rw [recovers, faults]
    exact ⟨fun few => (ProvingRecord.recoveryStep_of_lt few).trans (streak _), ProvingRecord.recoveryStep_third,
      offGood, streak 0, litFault⟩
  · obtain ⟨recovers, onGood, faults, darkFault⟩ := ProvingRecord.observe_lit v
    have streak := lawful.withStreak_eq v (.inr rfl)
    rw [recovers, faults]
    exact ⟨fun few => (ProvingRecord.recoveryStep_of_lt few).trans (streak _), ProvingRecord.recoveryStep_third,
      onGood, streak 0, darkFault⟩
  · obtain ⟨dark, lit⟩ := ProvingRecord.observe_fault counts
    rw [dark, lit]
    exact ⟨ProvingRecord.faultStep_same, ProvingRecord.faultStep_third, ProvingRecord.faultStep_other,
      ProvingRecord.faultStep_same, ProvingRecord.faultStep_third, ProvingRecord.faultStep_other⟩
  · refine (State.compareSlot_answered replied s).trans (if_neg fun comparable => ?_)
    obtain ⟨⟨size, covered⟩, drive, prev, before, after⟩ := (SlotReport.comparable_iff replied).mp comparable
    rcases fails with unknown | wrong | fault | unheard | absent | left
    · exact covered (size.symm.trans unknown)
    · exact wrong size
    · exact Bool.false_ne_true (drive.symm.trans fault)
    · exact Bool.false_ne_true (unheard.symm.trans prev)
    · exact absent before
    · exact left after
  · intro z size latched drive prev before after lamp old new changed
    have comparable : r.comparable = true :=
      (SlotReport.comparable_iff replied).mpr
        ⟨⟨size.trans latched.symm, by simp [latched]⟩, drive, prev, before, after⟩
    have items : r.changes w.sense s.proving = changed.map fun o => (o, (new o.val).verdict) :=
      SlotReport.changes_eq latched w.sense s.proving
    have outcome := (State.compareSlot_answered replied s).trans (if_pos comparable)
    simp only [items, List.map_eq_nil_iff] at outcome
    refine ⟨r.moved w.sense s.proving, fun o covered => SlotReport.provingOf_moved latched w.sense s.proving covered,
      fun n other => SlotReport.provingOf_moved_other latched w.sense s.proving other,
      fun quiet => outcome.trans (if_pos quiet), fun told => (outcome.trans (if_neg told)).trans ?_⟩
    rw [Offer.lamp, List.length_map]
    rfl

end Sys2Proof.Machine

/-!
PROOFS. Link supervision: good frames, the countdown's expiry and SET SUPERVISION (O52).
-/

namespace Sys2Proof.Machine

/-! ## A new link record, and the entry that tells of it (R139, R140, R142, R148) -/

/-- The pass in flight and the free values drawn are all that catching up moves (log entry 5). -/
theorem State.catchUp_eq (s : State) :
    s.catchUp = { s with composer := s.catchUp.composer, freeIndex := s.catchUp.freeIndex } :=
  State.eq_of_fields (by simp)

/-- The SUPERVISION entry of a change of the link's state (R148). -/
def Offer.link (old new : LinkState) : Offer :=
  ⟨.supervision, .supervision, .none, old.code, new.code, [], none⟩

theorem State.offerLink_withLink_catchUp (s : State) (r : LinkRecord) (old new : LinkState) :
    (s.catchUp.withLink r).offerLink old new =
      { s with
        supervision := { s.supervision with link := r }
        composer := s.catchUp.composer
        freeIndex := s.catchUp.freeIndex
        journal := (s.offer (.link old new)).journal } := by
  have told : ((s.catchUp.withLink r).offer (.link old new)).journal = (s.offer (.link old new)).journal :=
    State.offer_journal_congr (by simp) (by simp) _
  calc (s.catchUp.withLink r).offerLink old new
    _ = { s.catchUp.withLink r with journal := (s.offer (.link old new)).journal } := by
      rw [← told]
      exact State.offer_eq_withJournal _ _
    _ = _ := State.eq_of_fields (by simp)

/-! ## Good frames and the link countdown's expiry (R139, R140) -/

theorem State.goodFrame_healthy {s : State} (healthy : s.supervision.link.state = .healthy) :
    s.goodFrame = s.withLink s.supervision.link.loaded := by
  rw [State.goodFrame, healthy]

theorem State.goodFrame_lost {s : State} (lost : s.supervision.link.state = .lost) :
    s.goodFrame =
      (s.catchUp.withLink ({ s.supervision.link with state := .healthy } : LinkRecord).loaded).offerLink
        .lost .healthy := by
  rw [State.goodFrame, lost]

/-- A HEALTHY record's countdown counts from its load unless the mode is OFF. -/
theorem LinkRecord.loaded_of_healthy {r : LinkRecord} (healthy : r.state = .healthy) :
    r.loaded =
      { r with
        state := .healthy
        countdown := if r.mode = .off then .stopped (r.period * 1000) else .counting (r.period * 1000) } := by
  by_cases off : r.mode = .off <;> simp [LinkRecord.loaded, healthy, off]

theorem exec_linkCountdownExpiry {s : State} (takes : s.takesExpiries = true) :
    exec .linkCountdownExpiry s = .next s.expireLink :=
  State.takesAfterFollowUps_of_takesExpiries takes State.expireLink

theorem State.expireLink_due {s : State} (due : s.supervision.link.countdown = .expired) :
    s.expireLink =
      (s.catchUp.withLink { s.supervision.link with state := .lost, countdown := .stopped 0 }).offerLink
        .healthy .lost :=
  if_pos (decide_eq_true due)

/-! ## SET SUPERVISION (R141, R142, Table 8-2) -/

theorem LinkMode.ofCode_code (m : LinkMode) : LinkMode.ofCode (byteOf m.code) = some m := by
  cases m <;> rfl

/-- Whether a request is a change (R141). -/
def LinkRecord.changes (r : LinkRecord) (mode : LinkMode) (period : Nat) : Bool :=
  decide (mode ≠ r.mode ∨ period ≠ r.period)

/-- The state a request leaves: a change to OFF ends LOST (R142, step 2). -/
def LinkRecord.stateAfter (r : LinkRecord) (mode : LinkMode) (period : Nat) : LinkState :=
  if r.changes mode period ∧ mode = .off then .healthy else r.state

/-- The countdown a request leaves: loaded on a new period and on a change from or to OFF, counting when the link is
watched and HEALTHY (R142, steps 2 and 3). -/
def LinkRecord.countdownAfter (r : LinkRecord) (mode : LinkMode) (period : Nat) : Timer :=
  if r.changes mode period = false then r.countdown
  else if period ≠ r.period ∨ mode = .off ∨ r.mode = .off then
    (if mode ≠ .off ∧ r.stateAfter mode period = .healthy then .counting (period * 1000) else .stopped (period * 1000))
  else r.countdown

theorem LinkRecord.set_eq (r : LinkRecord) (mode : LinkMode) (period : Nat) :
    r.set mode period = ⟨mode, period, r.countdownAfter mode period, r.stateAfter mode period⟩ := by
  by_cases same : mode = r.mode ∧ period = r.period
  · obtain ⟨rfl, rfl⟩ := same
    simp [LinkRecord.set, LinkRecord.countdownAfter, LinkRecord.stateAfter, LinkRecord.changes]
  · have changes : r.changes mode period = true := decide_eq_true (not_and_or.mp same)
    have state : r.stateAfter mode period = if mode = .off then .healthy else r.state := by
      simp [LinkRecord.stateAfter, changes]
    rw [LinkRecord.countdownAfter, changes, state]
    refine (if_neg same).trans ?_
    by_cases loads : period ≠ r.period ∨ mode = .off ∨ r.mode = .off
    · rw [if_pos loads, if_neg Bool.false_ne_true.symm, if_pos loads]
      rfl
    · rw [if_neg loads, if_neg Bool.false_ne_true.symm, if_neg loads]

/-- Whether a new record ends the LOST state, which is told by an entry (R142, step 2). -/
def LinkRecord.endsLost (r new : LinkRecord) : Bool :=
  decide (r.state = .lost ∧ new.state = .healthy)

/-- A new record stored, told of when it ends the LOST state. -/
theorem State.withLink_told (s : State) (new : LinkRecord) :
    (if s.supervision.link.state = .lost ∧ new.state = .healthy then (s.catchUp.withLink new).offerLink .lost .healthy
      else s.withLink new) =
      { s with
        supervision := { s.supervision with link := new }
        composer := if s.supervision.link.endsLost new then s.catchUp.composer else s.composer
        freeIndex := if s.supervision.link.endsLost new then s.catchUp.freeIndex else s.freeIndex
        journal :=
          if s.supervision.link.endsLost new then (s.offer (.link .lost .healthy)).journal else s.journal } := by
  by_cases ends : s.supervision.link.state = .lost ∧ new.state = .healthy
  · have told : s.supervision.link.endsLost new = true := decide_eq_true ends
    rw [if_pos ends, State.offerLink_withLink_catchUp]
    simp only [told, if_true]
  · have quiet : s.supervision.link.endsLost new = false := decide_eq_false ends
    rw [if_neg ends]
    simp only [quiet, Bool.false_eq_true, if_false]
    rfl

theorem LinkRecord.permits_iff (r : LinkRecord) (mode : LinkMode) (period : Nat) :
    r.permits mode period = true ↔ r.mode ≠ .locked ∨ (mode = .locked ∧ period = r.period) :=
  decide_eq_true_iff

/-- With mode code and period in range, Table 8-2 decides. -/
theorem setSupervisionAnswer_inRange (mode : LinkMode) {period : Byte} (least : 1 ≤ period.toNat) (s : State) :
    setSupervisionAnswer (byteOf mode.code) period s =
      if s.supervision.link.permits mode period.toNat then
        let held := s.supervision.link
        let now := held.set mode period.toNat
        { state :=
            if held.state = .lost ∧ now.state = .healthy then (s.catchUp.withLink now).offerLink .lost .healthy
            else s.withLink now
          payload := [byteOf now.mode.code, byteOf now.period, now.state.code, byteOf now.countdown.seconds] }
      else s.refuse .locked := by
  have positive : period ≠ 0 := by
    rintro rfl
    exact absurd least (by decide)
  rw [setSupervisionAnswer, LinkMode.ofCode_code]
  exact if_neg positive

theorem setSupervisionAnswer_locked {mode : LinkMode} {period : Byte} {s : State} (least : 1 ≤ period.toNat)
    (refused : s.supervision.link.permits mode period.toNat = false) :
    setSupervisionAnswer (byteOf mode.code) period s = s.refuse .locked := by
  rw [setSupervisionAnswer_inRange mode least, refused]
  rfl

theorem setSupervisionAnswer_taken {mode : LinkMode} {period : Byte} {s : State} (least : 1 ≤ period.toNat)
    (taken : s.supervision.link.permits mode period.toNat = true) :
    let now := s.supervision.link.set mode period.toNat
    setSupervisionAnswer (byteOf mode.code) period s =
      { state :=
          { s with
            supervision := { s.supervision with link := now }
            composer := if s.supervision.link.endsLost now then s.catchUp.composer else s.composer
            freeIndex := if s.supervision.link.endsLost now then s.catchUp.freeIndex else s.freeIndex
            journal :=
              if s.supervision.link.endsLost now then (s.offer (.link .lost .healthy)).journal else s.journal }
        payload := [byteOf now.mode.code, byteOf now.period, now.state.code, byteOf now.countdown.seconds] } := by
  intro now
  rw [setSupervisionAnswer_inRange mode least, if_pos taken, ← State.withLink_told]

/-- Settles O52: the good frame by the state it finds, the expiry by whether it is due, SET SUPERVISION by Table 8-2. -/
theorem linkSupervisionFollowsItsRules : Obligations.LinkSupervisionFollowsItsRules := by
  refine ⟨fun s => ⟨fun healthy => ?_, fun lost => ?_⟩, fun s takes => ⟨fun undue => ?_, fun due => ?_⟩,
    fun s mode period o least => ⟨fun ⟨locked, other⟩ => ?_, fun taken => ?_⟩⟩
  · rw [State.goodFrame_healthy healthy, LinkRecord.loaded_of_healthy healthy]
    rfl
  · rw [State.goodFrame_lost lost, LinkRecord.loaded_of_healthy rfl, State.offerLink_withLink_catchUp]
    rfl
  · rw [exec_linkCountdownExpiry takes, State.expireLink_undue (decide_eq_false undue)]
  · rw [exec_linkCountdownExpiry takes, State.expireLink_due due, State.offerLink_withLink_catchUp]
    rfl
  · have refused : s.supervision.link.permits mode period.toNat = false :=
      Bool.eq_false_iff.mpr fun permitted =>
        ((s.supervision.link.permits_iff mode period.toNat).mp permitted).elim (absurd locked) other
    exact State.request_refused (r := setSupervisionRequest _ _) o (.setSupervision _ _) rfl (by decide)
      (setSupervisionAnswer_locked least refused)
  · have served := State.request_taken (r := setSupervisionRequest (byteOf mode.code) period) o
      (.setSupervision (byteOf mode.code) period) rfl
      (show (0x40 : Byte) ≠ resetKind by decide)
      (setSupervisionAnswer_taken least ((s.supervision.link.permits_iff mode period.toNat).mpr taken))
    rw [LinkRecord.set_eq, byteOf_toNat] at served
    exact served

end Sys2Proof.Machine

/-!
PROOFS. The outstations: expiries, refreshes, heartbeats and new periods (O53).
-/

namespace Sys2Proof.Machine

/-! ## An outstation's expiry, refresh and new period (R144, R146, Table 8-4) -/

theorem exec_outstationCountdownExpiry {s : State} (takes : s.takesExpiries = true) (n : Fin 128) :
    exec (.outstationCountdownExpiry n) s = .next (s.expireOutstation n) :=
  State.takesAfterFollowUps_of_takesExpiries takes (State.expireOutstation n)

theorem State.expireOutstation_due {s : State} {n : Fin 128}
    (due : (s.supervision.outstations.get n).countdown = .expired) :
    s.expireOutstation n =
      (s.catchUp.withOutstation n
        { s.supervision.outstations.get n with state := .failed, countdown := .stopped 0 }).offerOutstation n
          .healthy .failed :=
  if_pos (decide_eq_true due)

theorem State.refresh_unsupervised {s : State} {n : Fin 128}
    (idle : (s.supervision.outstations.get n).state = .unsupervised) : s.refresh n = s := by
  simp only [State.refresh, idle]

theorem State.refresh_healthy {s : State} {n : Fin 128}
    (healthy : (s.supervision.outstations.get n).state = .healthy) :
    s.refresh n =
      s.withOutstation n
        { s.supervision.outstations.get n with
          countdown := .counting ((s.supervision.outstations.get n).period * 1000) } := by
  simp only [State.refresh, healthy]

theorem State.refresh_failed {s : State} {n : Fin 128}
    (failed : (s.supervision.outstations.get n).state = .failed) :
    s.refresh n =
      (s.withOutstation n
        { s.supervision.outstations.get n with
          state := .healthy
          countdown := .counting ((s.supervision.outstations.get n).period * 1000) }).offerOutstation n
            .failed .healthy := by
  simp only [State.refresh, failed]

theorem Outstation.withPeriod_zero (o : Outstation) : o.withPeriod 0 = ⟨0, .stopped 0, .unsupervised⟩ :=
  if_pos rfl

theorem Outstation.withPeriod_failed {o : Outstation} {period : Nat} (new : period ≠ 0) (failed : o.state = .failed) :
    o.withPeriod period = ⟨period, .stopped 0, .failed⟩ := by
  rw [Outstation.withPeriod, if_neg new, failed]

theorem Outstation.withPeriod_counts {o : Outstation} {period : Nat} (new : period ≠ 0) (sound : o.state ≠ .failed) :
    o.withPeriod period = ⟨period, .counting (period * 1000), .healthy⟩ := by
  rw [Outstation.withPeriod, if_neg new]
  cases state : o.state with
  | unsupervised => rfl
  | healthy => rfl
  | failed => exact absurd state sound

theorem State.storePeriod_told {s : State} {n : Fin 128} (failed : (s.supervision.outstations.get n).state = .failed) :
    s.storePeriod n 0 =
      (s.catchUp.withOutstation n ⟨0, .stopped 0, .unsupervised⟩).offerOutstation n .failed .unsupervised := by
  rw [← (s.supervision.outstations.get n).withPeriod_zero]
  exact if_pos ⟨failed, rfl⟩

/-- Only the change from FAILED to UNSUPERVISED has an entry (R146). -/
theorem State.storePeriod_quiet {s : State} {n : Fin 128} {period : Nat}
    (other : ¬ ((s.supervision.outstations.get n).state = .failed ∧ period = 0)) :
    s.storePeriod n period = s.withOutstation n ((s.supervision.outstations.get n).withPeriod period) :=
  if_neg other

/-! ## SITE HEARTBEAT (R145) -/

/-- The numbers of a list that name an outstation, in order. -/
def knownOutstations (numbers : List Byte) : List (Fin 128) :=
  numbers.filterMap fun x => boundedOf 128 x.toNat

/-- The position of the first number that names no outstation. -/
def firstUnknown (numbers : List Byte) : Option Nat :=
  numbers.findIdx? fun x => decide (128 ≤ x.toNat)

theorem knownOutstations_cons_of_lt {x : Byte} (known : x.toNat < 128) (rest : List Byte) :
    knownOutstations (x :: rest) = ⟨x.toNat, known⟩ :: knownOutstations rest :=
  List.filterMap_cons_some (boundedOf_of_lt known)

theorem knownOutstations_cons_of_le {x : Byte} (unknown : 128 ≤ x.toNat) (rest : List Byte) :
    knownOutstations (x :: rest) = knownOutstations rest :=
  List.filterMap_cons_none (boundedOf_of_le unknown)

theorem firstUnknown_cons_of_lt {x : Byte} (known : x.toNat < 128) (rest : List Byte) :
    firstUnknown (x :: rest) = (firstUnknown rest).map (· + 1) := by
  simp [firstUnknown, List.findIdx?_cons, known]

theorem firstUnknown_cons_of_le {x : Byte} (unknown : 128 ≤ x.toNat) (rest : List Byte) :
    firstUnknown (x :: rest) = some 0 := by
  simp [firstUnknown, List.findIdx?_cons, unknown]

/-- A heartbeat in closed form: the last state, the number applied, and the first position skipped. -/
theorem heartbeatFrom_eq (numbers : List Byte) : ∀ (position : Nat) (b : Batch),
    heartbeatFrom position numbers b =
      ⟨(knownOutstations numbers).foldl (fun t n => t.catchUp.refresh n) b.state,
        b.applied + (knownOutstations numbers).length,
        b.skipped.or ((firstUnknown numbers).map (position + ·))⟩ := by
  induction numbers with
  | nil => intro position b; simp [heartbeatFrom, knownOutstations, firstUnknown]
  | cons x rest ih =>
    intro position b
    rw [heartbeatFrom, ih]
    rcases Nat.lt_or_ge x.toNat 128 with known | unknown
    · have count : ∀ k, b.applied + 1 + k = b.applied + (k + 1) := by omega
      have place : ∀ i, position + 1 + i = position + (i + 1) := by omega
      rw [boundedOf_of_lt known, knownOutstations_cons_of_lt known, firstUnknown_cons_of_lt known]
      simp [Batch.apply, count, place, Function.comp_def]
    · rw [boundedOf_of_le unknown, knownOutstations_cons_of_le unknown, firstUnknown_cons_of_le unknown]
      cases skipped : b.skipped <;> simp [Batch.skip, skipped]

theorem firstUnknown_eq_none {numbers : List Byte} (all : ∀ x ∈ numbers, x.toNat < 128) : firstUnknown numbers = none :=
  List.findIdx?_eq_none_iff.mpr fun x among => decide_eq_false (Nat.not_le.mpr (all x among))

theorem firstUnknown_eq_some {numbers : List Byte} {i : Nat} {x : Byte} (here : numbers[i]? = some x)
    (unknown : 128 ≤ x.toNat) (before : ∀ y ∈ numbers.take i, y.toNat < 128) : firstUnknown numbers = some i := by
  obtain ⟨inside, rfl⟩ := List.getElem?_eq_some_iff.mp here
  refine List.findIdx?_eq_some_iff_getElem.mpr ⟨inside, decide_eq_true unknown, fun j earlier => ?_⟩
  have known := before numbers[j] (List.mem_take_iff_getElem.mpr ⟨j, by omega, rfl⟩)
  simpa using known

theorem siteHeartbeatAnswer_eq (numbers : List Byte) (s : State) :
    siteHeartbeatAnswer numbers s =
      { state := (knownOutstations numbers).foldl (fun t n => t.catchUp.refresh n) s
        payload := [byteOf (knownOutstations numbers).length, valueByte (firstUnknown numbers)] } := by
  have taken : heartbeatFrom 0 numbers ⟨s, 0, none⟩ =
      ⟨(knownOutstations numbers).foldl (fun t n => t.catchUp.refresh n) s, (knownOutstations numbers).length,
        firstUnknown numbers⟩ := by
    simp [heartbeatFrom_eq]
  rw [siteHeartbeatAnswer, taken]
  rfl

/-! ## SET OUTSTATION PERIODS (R146) -/

/-- The periods go to the records from a number upward, one each. -/
theorem storePeriodsFrom_eq (periods : List Half) : ∀ {number : Nat} (_ : number + periods.length ≤ 128) (s : State),
    storePeriodsFrom number periods s =
      ((((List.finRange 128).drop number).take periods.length).zip periods).foldl
        (fun t x => t.storePeriod x.1 x.2.toNat) s := by
  induction periods with
  | nil => intro number _ s; simp [storePeriodsFrom]
  | cons p rest ih =>
    intro number fits s
    rw [List.length_cons] at fits
    have inside : number < 128 := by omega
    have first : (List.finRange 128).drop number = ⟨number, inside⟩ :: (List.finRange 128).drop (number + 1) := by
      rw [List.drop_eq_getElem_cons (by simpa using inside)]
      simp
    rw [storePeriodsFrom, boundedOf_of_lt inside, ih (by omega), first]
    rfl

theorem setOutstationPeriodsAnswer_stores {first : Fin 128} {periods : List Half}
    (fits : first.val + periods.length ≤ 128) (range : ∀ p ∈ periods, p.toNat ≤ 3600) (s : State) :
    setOutstationPeriodsAnswer (byteOf first.val) periods s =
      { state :=
          ((((List.finRange 128).drop first.val).take periods.length).zip periods).foldl
            (fun t x => t.storePeriod x.1 x.2.toNat) s } := by
  have number : (byteOf first.val).toNat = first.val := toNat_byteOf (by omega)
  have all : periods.all (fun p => p.toNat ≤ 3600) = true := by simpa using range
  rw [← storePeriodsFrom_eq periods fits s, setOutstationPeriodsAnswer, number]
  exact if_pos ⟨first.isLt, fits, all⟩

/-- Settles O53: each change of one record by the state it finds, the two requests by their lists in closed form. -/
theorem outstationsFollowTheirRules : Obligations.OutstationsFollowTheirRules := by
  refine ⟨fun s n => ⟨fun takes => ⟨fun undue => ?_, fun due => ?_⟩, State.refresh_unsupervised, State.refresh_healthy,
    State.refresh_failed, fun p new sound => ?_, fun p new failed => ?_, fun sound => ?_, State.storePeriod_told⟩,
    fun s numbers o one most => ?_, fun s first periods o one fits range => ?_⟩
  · rw [exec_outstationCountdownExpiry takes, State.expireOutstation_undue (decide_eq_false undue)]
  · rw [exec_outstationCountdownExpiry takes, State.expireOutstation_due due]
    rfl
  · rw [State.storePeriod_quiet fun told => sound told.1, Outstation.withPeriod_counts new sound]
  · rw [State.storePeriod_quiet fun told => new told.2, Outstation.withPeriod_failed new failed]
  · rw [State.storePeriod_quiet fun told => sound told.1, Outstation.withPeriod_zero]
  · have served := State.request_taken (r := siteHeartbeatRequest numbers) o (.siteHeartbeat numbers)
      (decide_eq_true ⟨one, most⟩) (show (0x42 : Byte) ≠ resetKind by decide) (siteHeartbeatAnswer_eq numbers s)
    refine ⟨valueByte (firstUnknown numbers), served, fun all => ?_, fun i x here unknown before => ?_⟩
    · rw [firstUnknown_eq_none all]
      rfl
    · rw [firstUnknown_eq_some here unknown before]
      rfl
  · exact State.request_taken (r := setOutstationPeriodsRequest (byteOf first.val) periods) o
      (.setOutstationPeriods (byteOf first.val) periods) (decide_eq_true ⟨one, by omega⟩)
      (show (0x41 : Byte) ≠ resetKind by decide) (setOutstationPeriodsAnswer_stores fits range s)

end Sys2Proof.Machine

/-!
PROOFS. The journal: its law across the changes of the ring, the discard before an append and the append (O20), the
entries that READ JOURNAL takes (O18), the selection table (O19).
-/

namespace Sys2Proof.Machine

/-! ## The journal law -/

/-- The journal law, with the bound on an entry's items. -/
def JournalUnit.Sound (j : JournalUnit) : Prop :=
  j.Lawful ∧ j.ItemsBounded

/-! ## Consecutive sequence numbers (R155) -/

/-- What is left when the oldest entries go stays consecutive. -/
theorem Consecutive.drop_oldest {next : Word} {gone kept : List JournalEntry} (h : Consecutive next (gone ++ kept)) :
    Consecutive next kept := by
  induction gone with
  | nil => exact h
  | cons e gone ih =>
    refine ih ?_
    rw [List.cons_append] at h
    cases ring : gone ++ kept with
    | nil => trivial
    | cons f rest =>
      rw [ring] at h
      exact h.2

/-- An entry that takes the next number at the newest end. -/
theorem Consecutive.append_newest {next : Word} {ring : List JournalEntry} (h : Consecutive next ring)
    {e : JournalEntry} (numbered : e.seq = next) : Consecutive (next + 1) (ring ++ [e]) := by
  induction ring with
  | nil => exact congrArg (· + 1) numbered
  | cons x rest ih =>
    cases rest with
    | nil =>
      have last : x.seq + 1 = next := h
      exact ⟨last.trans numbered.symm, congrArg (· + 1) numbered⟩
    | cons y rest => exact ⟨h.1, ih h.2⟩

/-! ## The journal law across the changes of the ring -/

/-- An empty ring with ATTN negated is sound whatever number comes next. -/
theorem JournalUnit.sound_of_empty {j : JournalUnit} (ring : j.ring = []) (attn : j.attn = false) : j.Sound := by
  obtain ⟨_, next, selection, _⟩ := j
  cases ring
  cases attn
  exact ⟨⟨Nat.zero_le _, Nat.zero_le _, trivial, by simp⟩, fun e among => absurd among List.not_mem_nil⟩

/-- An append of at most 64 items: the discard has made room for them (R156). -/
theorem JournalUnit.Sound.append {j : JournalUnit} (h : j.Sound) (time : Word) {o : Offer}
    (small : o.details.length ≤ 64) : (j.append time o).Sound := by
  obtain ⟨⟨-, -, consecutive, -⟩, bounded⟩ := h
  obtain ⟨gone, split⟩ := makeRoom_suffix o.details.length j.ring
  refine ⟨⟨?_, ?_, ?_, by simp [JournalUnit.append]⟩, fun e among => ?_⟩
  · simpa [JournalUnit.append] using makeRoom_length o.details.length j.ring
  · have fits : itemsHeld (makeRoom o.details.length j.ring) + o.details.length ≤ Config.detailCapacity := by
      rcases makeRoom_items o.details.length j.ring with empty | room
      · rw [empty, itemsHeld, Nat.zero_add]
        exact small.trans (by decide)
      · exact room
    simpa [JournalUnit.append, itemsHeld_append, itemsHeld] using fits
  · exact Consecutive.append_newest (Consecutive.drop_oldest (split ▸ consecutive)) rfl
  · rcases List.mem_append.mp among with kept | new
    · exact bounded e (split ▸ List.mem_append_right gone kept)
    · obtain rfl := List.mem_singleton.mp new
      exact small

/-- A removal from the oldest end, with ATTN as the rest has it (R158, R159). -/
theorem JournalUnit.Sound.remove {j : JournalUnit} (h : j.Sound) {taken left : List JournalEntry}
    (split : j.ring = taken ++ left) :
    JournalUnit.Sound { j with ring := left, attn := !left.isEmpty } := by
  obtain ⟨⟨places, items, consecutive, -⟩, bounded⟩ := h
  rw [split, List.length_append] at places
  rw [split, itemsHeld_append] at items
  rw [split] at consecutive
  exact ⟨⟨le_of_add_le_right places, le_of_add_le_right items, consecutive.drop_oldest, by simp⟩, fun e among =>
    bounded e (split ▸ List.mem_append_right taken among)⟩

theorem JournalUnit.emptied_sound (j : JournalUnit) : j.emptied.Sound :=
  JournalUnit.sound_of_empty rfl rfl

theorem JournalUnit.afterSoftwareReset_sound (j : JournalUnit) (time : Word) : (j.afterSoftwareReset time).Sound :=
  (JournalUnit.sound_of_empty (j := { j.emptied with nextSeq := 0 }) rfl rfl).append time (Nat.zero_le 64)

/-! ## The discard and the append (R152, R156) -/

theorem makeRoom_full {d : Nat} {e : JournalEntry} {rest : List JournalEntry}
    (full : Config.ringCapacity ≤ (e :: rest).length ∨ Config.detailCapacity < itemsHeld (e :: rest) + d) :
    makeRoom d (e :: rest) = makeRoom d rest :=
  if_pos full

theorem makeRoom_roomy {d : Nat} {e : JournalEntry} {rest : List JournalEntry}
    (roomy : ¬ (Config.ringCapacity ≤ (e :: rest).length ∨ Config.detailCapacity < itemsHeld (e :: rest) + d)) :
    makeRoom d (e :: rest) = e :: rest :=
  if_neg roomy

/-- The discard gives up the oldest part of the ring, and no entry that could have stayed: with the last one given up,
the ring had no place or the store no room. -/
theorem makeRoom_discards (d : Nat) (ring : List JournalEntry) :
    ∃ gone, ring = gone ++ makeRoom d ring ∧ ∀ g last, gone = g ++ [last] →
      Config.ringCapacity ≤ (last :: makeRoom d ring).length ∨
        Config.detailCapacity < itemsHeld (last :: makeRoom d ring) + d := by
  induction ring with
  | nil => exact ⟨[], rfl, fun g last ends => absurd ends (by simp)⟩
  | cons e rest ih =>
    by_cases full : Config.ringCapacity ≤ (e :: rest).length ∨ Config.detailCapacity < itemsHeld (e :: rest) + d
    · rw [makeRoom_full full]
      obtain ⟨gone, split, needed⟩ := ih
      refine ⟨e :: gone, congrArg (e :: ·) split, fun g last ends => ?_⟩
      rcases List.cons_eq_append_iff.mp ends with ⟨-, only⟩ | ⟨g', -, later⟩
      · obtain ⟨rfl, rfl⟩ := List.cons.inj only
        rw [List.nil_append] at split
        rwa [← split]
      · exact needed g' last later
    · rw [makeRoom_roomy full]
      exact ⟨[], rfl, fun g last ends => absurd ends (by simp)⟩

/-- An offer is recorded when it has no section, as one of a board class, or when its section selects its class. -/
theorem JournalUnit.records_iff (j : JournalUnit) (o : Offer) :
    j.records o = true ↔ o.sect = none ∨ ∃ k, o.sect = some k ∧ (j.selection.get k).selects o.cls = true := by
  unfold JournalUnit.records
  cases o.sect <;> simp

/-- Settles O20: the offer by whether it is recorded, the append by what its discard gives up and keeps. -/
theorem offersAreAppendedOrDropped : Obligations.OffersAreAppendedOrDropped := by
  intro s o _
  refine ⟨fun k sect unselected => if_neg fun recorded => ?_, fun recorded => ?_⟩
  · rcases (s.journal.records_iff o).mp recorded with board | ⟨m, sect', selected⟩
    · simp [sect] at board
    · obtain rfl : k = m := Option.some.inj (sect.symm.trans sect')
      exact Bool.false_ne_true (unselected.symm.trans selected)
  · obtain ⟨gone, split, needed⟩ := makeRoom_discards o.details.length s.journal.ring
    exact ⟨gone, _, split, makeRoom_length _ _, (makeRoom_items _ _).resolve_left, needed,
      if_pos ((s.journal.records_iff o).mpr recorded)⟩

/-! ## READ JOURNAL (R158) -/

theorem takeEntries_zero (space : Nat) (ring : List JournalEntry) : takeEntries 0 space ring = [] := by
  cases ring <;> rfl

theorem takeEntries_fitting {n space : Nat} {e : JournalEntry} (fits : e.size ≤ space) (rest : List JournalEntry) :
    takeEntries (n + 1) space (e :: rest) = e :: takeEntries n (space - e.size) rest :=
  if_pos fits

theorem takeEntries_unfitting {n space : Nat} {e : JournalEntry} (large : space < e.size) (rest : List JournalEntry) :
    takeEntries (n + 1) space (e :: rest) = [] :=
  if_neg (Nat.not_le.mpr large)

/-- The entries taken stand at the oldest end of the ring, are no more than asked for, fit the space, and cannot be one
more. -/
theorem takeEntries_takes (ring : List JournalEntry) : ∀ n space : Nat,
    ∃ left, ring = takeEntries n space ring ++ left ∧ (takeEntries n space ring).length ≤ n ∧
      ((takeEntries n space ring).map JournalEntry.size).sum ≤ space ∧
      ∀ e, left.head? = some e → (takeEntries n space ring).length = n ∨
        space < ((takeEntries n space ring ++ [e]).map JournalEntry.size).sum := by
  induction ring with
  | nil => exact fun n space => ⟨[], by simp [takeEntries]⟩
  | cons e rest ih =>
    intro n space
    cases n with
    | zero => exact ⟨e :: rest, by simp [takeEntries_zero]⟩
    | succ n =>
      rcases Nat.lt_or_ge space e.size with large | fits
      · exact ⟨e :: rest, by simp [takeEntries_unfitting large, large]⟩
      · obtain ⟨left, split, few, small, most⟩ := ih n (space - e.size)
        rw [takeEntries_fitting fits]
        refine ⟨left, congrArg (e :: ·) split, Nat.succ_le_succ few, ?_, fun x next => ?_⟩
        · rw [List.map_cons, List.sum_cons]
          omega
        · rw [List.cons_append, List.map_cons, List.sum_cons, List.length_cons]
          have := most x next
          omega

/-- READ JOURNAL with a count in range, by the two parts of the ring. -/
theorem readJournalAnswer_takes {s : State} {count : Byte} (one : 1 ≤ count.toNat) (most : count.toNat ≤ 16)
    {taken left : List JournalEntry} (takes : takeEntries count.toNat Config.journalReplySpace s.journal.ring = taken)
    (split : s.journal.ring = taken ++ left) :
    readJournalAnswer count s =
      { state := { s with journal := { s.journal with ring := left, attn := !left.isEmpty } }
        payload := [byteOf taken.length] ++ halfBytes left.length ++ taken.flatMap JournalEntry.bytes } := by
  have rest : s.journal.ring.drop taken.length = left := by rw [split, List.drop_left]
  refine (if_pos ⟨one, most⟩).trans ?_
  dsimp only
  rw [takes, rest]

/-- A request that passes during tests and is taken by its owner, to a part that serves. -/
theorem State.request_taken_always {s u : State} {r : Request} {payload : List Byte} (h : s.serves = true) (c : Instr)
    (d : r.duringTest = true) (z : r.sized = true) (k : r.kind ≠ resetKind) (a : r.owner s = ⟨u, .ok, payload⟩) :
    s.request c r = .next (u.sendReply (r.kind + 0x80) .ok payload false) := by
  rw [State.request_of_serves h c r, State.serve, State.gate_passes_always d z, a, Answer.reply_ok u payload r.kind k]

theorem halfBytes_zero : halfBytes 0 = [0, 0] := by decide

/-- Settles O18: the ring falls into the entries taken and those left, and Table 11-9 is read off the bytes of each
entry. -/
theorem readJournalTakesTheOldest : Obligations.ReadJournalTakesTheOldest := by
  intro s count serves one most size subject bytes
  have subject_eq (e : JournalEntry) : subject e = e.subject.kindCode :: halfBytes e.subject.number := by
    obtain ⟨seq, time, cls, source, about, old, new, details⟩ := e
    cases about with
    | none => exact congrArg (0 :: ·) halfBytes_zero.symm
    | point | tile | outstation => rfl
  have bytes_eq : bytes = JournalEntry.bytes := by
    funext e
    simp [bytes, subject_eq, JournalEntry.bytes]
  obtain ⟨left, split, few, small, all⟩ :=
    takeEntries_takes s.journal.ring count.toNat Config.journalReplySpace
  refine ⟨_, left, split, few, small, all, ?_⟩
  rw [bytes_eq]
  exact State.request_taken_always (r := readJournalRequest count) serves (.readJournal count) rfl rfl
    (show (0x50 : Byte) ≠ resetKind by decide) (readJournalAnswer_takes one most rfl split)

/-! ## SET JOURNAL SELECTION (R154) -/

/-- A selection value up to 15 is read back from the selections it stands for. -/
theorem Selection.value_ofValue {v : Byte} (small : v.toNat ≤ 15) : (Selection.ofValue v).value = v := by
  have table : ∀ n : Fin 16, (Selection.ofValue (byteOf n.val)).value = byteOf n.val := by decide
  simpa using table ⟨v.toNat, Nat.lt_succ_of_le small⟩

/-- The selection table that sixteen values stand for. -/
def selectionTable (values : List Byte) : Bank 16 Selection :=
  Bank.make fun k => Selection.ofValue (values.getD k.val 0)

theorem selectionTable_get {values : List Byte} {k : Fin 16} {v : Byte} (here : values[k.val]? = some v) :
    (selectionTable values).get k = Selection.ofValue v := by
  simp [selectionTable, here]

/-- The table carries the sixteen values it was made from. -/
theorem selectionTable_values {values : List Byte} (sixteen : values.length = 16) (small : ∀ v ∈ values, v.toNat ≤ 15) :
    (selectionTable values).rows.map Selection.value = values := by
  refine List.ext_getElem (by rw [List.length_map, Bank.size, sixteen]) fun k _ here => ?_
  have row : (selectionTable values).get ⟨k, by omega⟩ = Selection.ofValue values[k] :=
    selectionTable_get (List.getElem?_eq_getElem here)
  rw [List.getElem_map]
  exact (congrArg Selection.value row).trans (Selection.value_ofValue (small _ (List.getElem_mem here)))

theorem setJournalSelectionAnswer_stores {values : List Byte} (sixteen : values.length = 16)
    (small : ∀ v ∈ values, v.toNat ≤ 15) (s : State) :
    setJournalSelectionAnswer values s =
      { state := { s with journal := { s.journal with selection := selectionTable values } }, payload := values } := by
  refine (if_pos (by simpa using small)).trans ?_
  exact congrArg (Answer.mk _ .ok) (selectionTable_values sixteen small)

/-- Settles O19: the table that the values stand for. -/
theorem selectionIsWrittenWhole : Obligations.SelectionIsWrittenWhole := by
  intro s values o sixteen small
  refine ⟨selectionTable values, fun k => ?_, ?_⟩
  · have here : k.val < values.length := by omega
    refine ⟨values[k.val], List.getElem?_eq_getElem here, ?_⟩
    rw [selectionTable_get (List.getElem?_eq_getElem here)]
    exact ⟨rfl, rfl, rfl, rfl⟩
  · exact State.request_taken (r := setJournalSelectionRequest values) o (.setJournalSelection values)
      (decide_eq_true sixteen) (show (0x51 : Byte) ≠ resetKind by decide)
      (setJournalSelectionAnswer_stores sixteen small s)

end Sys2Proof.Machine

/-!
PROOFS. Every step keeps the journal (O57): the law across everything a step is made of.
-/

namespace Sys2Proof.Machine

/-! ## What keeps the journal sound -/

/-- If the journal is sound in one state, it is in the other. -/
def State.KeepsJournal (s t : State) : Prop :=
  s.journal.Sound → t.journal.Sound

theorem State.KeepsJournal.refl (s : State) : s.KeepsJournal s := id

theorem State.KeepsJournal.trans {s t u : State} (h : s.KeepsJournal t) (k : t.KeepsJournal u) : s.KeepsJournal u :=
  k ∘ h

/-- A change that leaves the journal as it was. -/
theorem State.KeepsJournal.same {s t : State} (h : t.journal = s.journal) : s.KeepsJournal t :=
  fun sound => h ▸ sound

theorem State.KeepsJournal.of_eq {s t : State} (h : t = s) : s.KeepsJournal t := h ▸ .refl s

theorem State.KeepsJournal.of_sound {s t : State} (h : t.journal.Sound) : s.KeepsJournal t := fun _ => h

/-- An entry of at most 64 detail items offered after a change that keeps the journal sound. -/
theorem State.KeepsJournal.offer {s t : State} (h : s.KeepsJournal t) {o : Offer} (small : o.details.length ≤ 64) :
    s.KeepsJournal (t.offer o) := by
  rcases t.offer_cases o with ⟨-, recorded⟩ | ⟨-, dropped⟩
  · rw [recorded]
    exact fun sound => (h sound).append _ small
  · rw [dropped]
    exact h

/-- An entry without detail items, as all but LAMP entries are (R151), offered after a change that leaves the journal as
it was. -/
theorem State.KeepsJournal.same_offer {s t : State} {cls : EntryClass} {source : Source} {subject : Subject}
    {old new : Byte} {sect : Option (Fin 16)} (h : t.journal = s.journal) :
    s.KeepsJournal (t.offer ⟨cls, source, subject, old, new, [], sect⟩) :=
  (State.KeepsJournal.same h).offer (Nat.zero_le 64)

/-- One change after another, for every member of a list. -/
theorem State.foldl_keepsJournal {α : Type} {f : State → α → State} (h : ∀ (s : State) (a : α), s.KeepsJournal (f s a))
    (as : List α) : ∀ s : State, s.KeepsJournal (as.foldl f s) := by
  induction as with
  | nil => exact .refl
  | cons a rest ih => exact fun s => (h s a).trans (ih _)

/-! ### The points and the list (chapters 1 and 2) -/

theorem State.valueChange_keepsJournal (s : State) (p : Nat) (r : PointRecord) (active : Bool) :
    s.KeepsJournal (s.valueChange p r active) := by
  unfold State.valueChange
  dsimp only
  split
  · exact .refl s
  · exact .same_offer (by simp)

theorem State.handOn_keepsJournal (s : State) (p : Nat) (r : PointRecord) (old : Option Nat) :
    s.KeepsJournal (s.handOn p r old) := by
  unfold State.handOn
  split
  · split
    · exact .refl s
    · split
      · exact .refl s
      · exact s.valueChange_keepsJournal p r _
  · exact .same_offer rfl
  · exact .same_offer rfl

theorem State.settle_keepsJournal (s : State) (p : Nat) (old : Option Nat) : s.KeepsJournal (s.settle p old) := by
  unfold State.settle
  split
  · exact .refl s
  · next r _ =>
    split
    · exact .refl s
    · have stamped : s.KeepsJournal (s.withPoint p { r with lastChange := some s.cadence.time }) := .same (by simp)
      exact stamped.trans (State.handOn_keepsJournal _ _ _ _)

theorem State.refresh_keepsJournal (s : State) (n : Fin 128) : s.KeepsJournal (s.refresh n) := by
  unfold State.refresh
  dsimp only
  split
  · exact .refl s
  · exact .same (by simp)
  · exact .same_offer (by simp)

theorem State.applyUpdate_keepsJournal (s : State) (u : Update) (r : PointRecord) :
    s.KeepsJournal (s.applyUpdate u r) := by
  have written : s.KeepsJournal (s.catchUp.withPoint u.point.toNat { r with live := some u.value.toNat }) :=
    .same (by simp)
  exact (written.trans (State.refresh_keepsJournal _ _)).trans (State.settle_keepsJournal _ _ _)

theorem updatesFrom_keepsJournal (us : List Update) :
    ∀ (position : Nat) (b : Batch), b.state.KeepsJournal (updatesFrom position us b).state := by
  induction us with
  | nil => exact fun _ b => .refl b.state
  | cons u rest ih =>
    intro position b
    refine .trans ?_ (ih (position + 1) _)
    split
    · exact State.applyUpdate_keepsJournal _ _ _
    · exact .refl b.state

theorem State.withNamed_keepsJournal {s : State} {point : Half} {f : Nat → PointRecord → Answer}
    (h : ∀ r, s.KeepsJournal (f point.toNat r).state) : s.KeepsJournal (s.withNamed point f).state := by
  unfold State.withNamed
  split
  · split
    · exact .refl s
    · exact h _
  · exact .refl s

theorem definePointAnswer_keepsJournal (d : DefineArgs) (s : State) :
    s.KeepsJournal (definePointAnswer d s).state := by
  unfold definePointAnswer
  dsimp only
  split
  · exact .refl s
  · split
    · exact .refl s
    · split
      · exact .refl s
      · split
        · exact .refl s
        · exact .same_offer (by simp)

theorem deletePointAnswer_keepsJournal (point : Half) (s : State) :
    s.KeepsJournal (deletePointAnswer point s).state := by
  refine State.withNamed_keepsJournal fun r => .same_offer ?_
  split <;> simp

theorem forcePointAnswer_keepsJournal (point : Half) (v : Byte) (s : State) :
    s.KeepsJournal (forcePointAnswer point v s).state := by
  refine State.withNamed_keepsJournal fun r => ?_
  split
  · exact .trans (.same_offer (by simp)) (State.settle_keepsJournal _ _ _)
  · exact .refl s

theorem releasePointAnswer_keepsJournal (point : Half) (s : State) :
    s.KeepsJournal (releasePointAnswer point s).state := by
  refine State.withNamed_keepsJournal fun r => ?_
  split
  · exact .trans (.same_offer (by simp)) (State.settle_keepsJournal _ _ _)
  · exact .refl s

theorem inhibitPointAnswer_keepsJournal (point : Half) (s : State) :
    s.KeepsJournal (inhibitPointAnswer point s).state := by
  refine State.withNamed_keepsJournal fun r => ?_
  split
  · exact .refl s
  · refine .same_offer ?_
    split <;> simp

theorem enablePointAnswer_keepsJournal (point : Half) (s : State) :
    s.KeepsJournal (enablePointAnswer point s).state := by
  refine State.withNamed_keepsJournal fun r => ?_
  split
  · have enabled : s.KeepsJournal ((s.catchUp.withPoint point.toNat { r with inhibited := false }).offerAdmin
        point.toNat r.sect 6 r.effective) := .same_offer (by simp)
    dsimp only
    split
    · have arrives (t : State) : t.KeepsJournal (t.enableArrival point.toNat { r with inhibited := false }) :=
        .same_offer (by simp)
      exact enabled.trans (arrives _)
    · exact enabled
  · exact .refl s

theorem State.acknowledgeEntry_keepsJournal (source : Source) (s : State) (e : AnnEntry) :
    s.KeepsJournal (s.acknowledgeEntry source e) := by
  unfold State.acknowledgeEntry
  split
  · exact .refl s
  · dsimp only
    split
    · exact .refl s
    · exact .same_offer (by simp)

theorem State.acknowledgeEntries_keepsJournal (source : Source) (s : State) (entries : List AnnEntry) :
    s.KeepsJournal (s.acknowledgeEntries source entries) := by
  cases entries with
  | nil => exact .refl s
  | cons e rest =>
    have caught : s.KeepsJournal s.catchUp := .same (by simp)
    exact caught.trans (State.foldl_keepsJournal (State.acknowledgeEntry_keepsJournal source) (e :: rest) _)

theorem acknowledgeAnswer_keepsJournal (scope : Byte) (argument : Half) (s : State) :
    s.KeepsJournal (acknowledgeAnswer scope argument s).state := by
  rcases acknowledgeAnswer_state scope argument s with same | ⟨entries, taken⟩
  · exact .of_eq same
  · rw [taken]
    exact s.acknowledgeEntries_keepsJournal .host entries

theorem State.silenceHorn_keepsJournal (s : State) (source : Source) : s.KeepsJournal (s.silenceHorn source) :=
  .same_offer (by simp)

/-! ### The desk and the lamp test (chapters 3 and 10) -/

theorem State.setLampTest_keepsJournal (s : State) (source : Source) (timer : Timer) (hold : Bool) :
    s.KeepsJournal (s.setLampTest source timer hold) := by
  unfold State.setLampTest
  dsimp only
  split
  · exact .same rfl
  · exact .same_offer (by rfl)

theorem State.expireHostTimer_keepsJournal (s : State) : s.KeepsJournal s.expireHostTimer := by
  unfold State.expireHostTimer
  split
  · exact s.setLampTest_keepsJournal _ _ _
  · exact .refl s

theorem lampTestAnswer_keepsJournal (duration : Byte) (s : State) :
    s.KeepsJournal (lampTestAnswer duration s).state := by
  unfold lampTestAnswer
  split
  · split
    · exact s.setLampTest_keepsJournal _ _ _
    · exact .refl s
  · exact .refl s

theorem State.onAckPress_keepsJournal (s : State) (formed : Bool) : s.KeepsJournal (s.onAckPress formed) := by
  unfold State.onAckPress
  split
  · exact s.acknowledgeEntries_keepsJournal .desk _
  · exact .refl s

theorem State.onSilencePress_keepsJournal (s : State) (formed : Bool) : s.KeepsJournal (s.onSilencePress formed) := by
  unfold State.onSilencePress
  split
  · exact s.silenceHorn_keepsJournal .desk
  · exact .refl s

theorem State.onLampTestKey_keepsJournal (s : State) (before after : Bool) :
    s.KeepsJournal (s.onLampTestKey before after) := by
  unfold State.onLampTestKey
  split
  · exact .refl s
  · split <;> exact s.setLampTest_keepsJournal _ _ _

theorem State.sampleDesk_keepsJournal (pins : DeskPins) (s : State) : s.KeepsJournal (s.sampleDesk pins) := by
  have sampled : s.KeepsJournal { s with desk := s.desk.sampled pins } := .same rfl
  unfold State.sampleDesk
  split
  · dsimp only
    split
    · exact ((sampled.trans (State.onAckPress_keepsJournal _ _)).trans (State.onSilencePress_keepsJournal _ _)).trans
        (State.onLampTestKey_keepsJournal _ _ _)
    · exact sampled
  · exact .refl s

theorem setDeskControlAnswer_keepsJournal (enable period : Byte) (s : State) :
    s.KeepsJournal (setDeskControlAnswer enable period s).state := by
  have enabled (e : Bool) : s.KeepsJournal (s.setDeskEnable e) := by
    have stored : s.KeepsJournal { s with desk := { s.desk with enabled := e } } := .same rfl
    unfold State.setDeskEnable
    dsimp only
    split
    · exact stored.trans (State.setLampTest_keepsJournal _ _ _ _)
    · exact stored
  unfold setDeskControlAnswer
  split
  · exact (enabled _).trans (.same rfl)
  · exact .refl s

/-! ### The loops and proving (chapters 6 and 7) -/

theorem State.offerTile_keepsJournal (s : State) (l : Loop) (slot : Fin 32) (old new : Tile) :
    s.KeepsJournal (s.offerTile l slot old new) := by
  unfold State.offerTile
  split
  · exact .refl s
  · exact .same_offer rfl

theorem State.startNormalFrame_keepsJournal (s : State) (l : Loop) : s.KeepsJournal (s.startNormalFrame l) := by
  have started : s.KeepsJournal (s.withLoop l (s.loop l).normalStart) := .same (by simp)
  have latched : s.KeepsJournal ((s.withLoop l (s.loop l).normalStart).offerLatched l (s.loop l).tiles) :=
    started.trans (State.foldl_keepsJournal (fun t slot => t.offerTile_keepsJournal l slot _ _) _ _)
  unfold State.startNormalFrame
  refine latched.trans (.same ?_)
  dsimp only
  split <;> simp

theorem State.startFrame_keepsJournal (l : Loop) (s : State) : s.KeepsJournal (s.startFrame l) := by
  unfold State.startFrame
  split
  · split
    · exact s.startNormalFrame_keepsJournal l
    · exact .same (by simp)
    · exact .refl s
    · exact .refl s
  · exact .refl s

/-- A comparison changes the verdicts of at most the 64 outputs of a slot. -/
theorem SlotReport.changes_length (r : SlotReport) (sense : Flags) (t : Sparse ProvingRecord) :
    (r.changes sense t).length ≤ 64 := by
  rw [SlotReport.changes, List.length_map]
  calc (r.outputs.filter _).length ≤ r.outputs.length := List.length_filter_le _ _
    _ ≤ (List.finRange 64).length := List.length_filter_le _ _
    _ = 64 := List.length_finRange

theorem State.compareSlot_keepsJournal (s : State) (r : SlotReport) : s.KeepsJournal (s.compareSlot r) := by
  cases replied : r.reply with
  | none => exact .of_eq (State.compareSlot_unanswered replied s)
  | some w =>
    have moved : s.KeepsJournal { s with proving := r.moved w.sense s.proving } := .same rfl
    rw [State.compareSlot_answered replied s]
    split
    · split
      · exact moved
      · exact moved.offer (r.changes_length w.sense s.proving)
    · exact .refl s

theorem State.runningSlotEnd_keepsJournal (s : State) (l : Loop) (slot : Fin 32) (reply : Option TileReply) :
    s.KeepsJournal (s.runningSlotEnd l slot reply) := by
  have moved (c : LoopController) : s.KeepsJournal (s.withLoop l c) := .same (by simp)
  exact ((moved _).trans (State.offerTile_keepsJournal _ l slot _ _)).trans (State.compareSlot_keepsJournal _ _)

theorem State.endSlot_keepsJournal (l : Loop) (window : List RxChar) (s : State) :
    s.KeepsJournal (s.endSlot l window) := by
  unfold State.endSlot
  split
  · exact .refl s
  · next t _ =>
    split
    · exact .refl s
    · next slot rest _ =>
      have ended (valid : Bool) : s.KeepsJournal (s.endTransfer l t slot rest valid) := .same (by simp)
      dsimp only
      split
      · exact (ended _).trans (State.runningSlotEnd_keepsJournal _ l slot _)
      · exact (ended (tileReplyOf window).isSome).trans (.same (by simp))
      · exact ended _
      · exact ended _

/-! ### The tests and the modes (chapter 10) -/

theorem State.endTest_keepsJournal (s : State) (final : TestState) : s.KeepsJournal (s.endTest final) :=
  .same_offer (by rfl)

theorem State.closeLoopTest_keepsJournal (s : State) : s.KeepsJournal s.closeLoopTest := by
  unfold State.closeLoopTest
  split
  · exact s.endTest_keepsJournal _
  · exact .refl s

theorem State.completeMemoryTest_keepsJournal (s : State) (passed : Bool) :
    s.KeepsJournal (s.completeMemoryTest passed) := by
  unfold State.completeMemoryTest
  split
  · exact s.endTest_keepsJournal _
  · exact .refl s

theorem State.endTestFrame_keepsJournal (s : State) (l : Loop) : s.KeepsJournal (s.endTestFrame l) := by
  unfold State.endTestFrame
  dsimp only
  split
  · exact .trans (.same (by simp)) (State.closeLoopTest_keepsJournal _)
  · exact .same (by simp)

theorem State.endFrame_keepsJournal (l : Loop) (s : State) : s.KeepsJournal (s.endFrame l) := by
  unfold State.endFrame
  split
  · split
    · exact .same (by simp)
    · exact .same (by simp)
    · exact s.endTestFrame_keepsJournal l
    · exact .refl s
  · exact .refl s

theorem abortTestAnswer_keepsJournal (s : State) : s.KeepsJournal (abortTestAnswer s).state := by
  unfold abortTestAnswer
  split
  · show s.KeepsJournal s.abortTest
    unfold State.abortTest
    split
    · exact .refl s
    · split
      · exact s.endTest_keepsJournal .aborted
      · exact .trans (.same (by simp)) (State.closeLoopTest_keepsJournal _)
  · exact .refl s

/-- A memory test starts with the ring empty (R161). -/
theorem runTestAnswer_keepsJournal (kind : Byte) (s : State) : s.KeepsJournal (runTestAnswer kind s).state := by
  unfold runTestAnswer
  split
  · split
    · dsimp only
      split
      · exact .of_sound (JournalUnit.emptied_sound _)
      · exact .same (by simp)
    · exact .refl s
  · exact .refl s

theorem setModeOnlineAnswer_keepsJournal (s : State) : s.KeepsJournal (setModeOnlineAnswer s).state := by
  unfold setModeOnlineAnswer
  split
  · exact .refl s
  · exact .same_offer (by simp)

theorem setModeOfflineAnswer_keepsJournal (s : State) : s.KeepsJournal (setModeOfflineAnswer s).state := by
  unfold setModeOfflineAnswer
  split
  · exact .refl s
  · dsimp only
    split
    · exact .trans (.same_offer (by simp)) (.same_offer rfl)
    · exact .same_offer (by simp)

/-! ### Supervision and the receiver (chapters 8 and 11) -/

theorem State.expireLink_keepsJournal (s : State) : s.KeepsJournal s.expireLink := by
  unfold State.expireLink
  split
  · exact .same_offer (by simp)
  · exact .refl s

theorem State.expireOutstation_keepsJournal (n : Fin 128) (s : State) : s.KeepsJournal (s.expireOutstation n) := by
  unfold State.expireOutstation
  split
  · exact .same_offer (by simp)
  · exact .refl s

theorem State.goodFrame_keepsJournal (s : State) : s.KeepsJournal s.goodFrame := by
  unfold State.goodFrame
  split
  · exact .same (by simp)
  · exact .same_offer (by simp)

theorem State.receive_keepsJournal (c : RxChar) (s : State) : s.KeepsJournal (s.receive c) := by
  have judged (last : Byte) : s.KeepsJournal (s.judgeFrame last) := by
    unfold State.judgeFrame
    dsimp only
    split
    · exact s.goodFrame_keepsJournal.trans (.same rfl)
    · exact .same rfl
  unfold State.receive
  split
  · split <;> exact .same rfl
  · exact .same rfl
  · exact .same rfl
  · split
    · split
      · exact .same rfl
      · exact judged _
    · exact .same rfl

theorem State.storePeriod_keepsJournal (s : State) (n : Fin 128) (period : Nat) :
    s.KeepsJournal (s.storePeriod n period) := by
  unfold State.storePeriod
  dsimp only
  split
  · exact .same_offer (by simp)
  · exact .same (by simp)

theorem storePeriodsFrom_keepsJournal (ps : List Half) :
    ∀ (number : Nat) (s : State), s.KeepsJournal (storePeriodsFrom number ps s) := by
  induction ps with
  | nil => exact fun _ s => .refl s
  | cons p rest ih =>
    intro number s
    refine .trans ?_ (ih (number + 1) _)
    split
    · exact s.storePeriod_keepsJournal _ _
    · exact .refl s

theorem heartbeatFrom_keepsJournal (os : List Byte) :
    ∀ (position : Nat) (b : Batch), b.state.KeepsJournal (heartbeatFrom position os b).state := by
  induction os with
  | nil => exact fun _ b => .refl b.state
  | cons x rest ih =>
    intro position b
    refine .trans ?_ (ih (position + 1) _)
    split
    · have caught : b.state.KeepsJournal b.state.catchUp := .same (by simp)
      exact caught.trans (State.refresh_keepsJournal _ _)
    · exact .refl b.state

theorem setSupervisionAnswer_keepsJournal (mode period : Byte) (s : State) :
    s.KeepsJournal (setSupervisionAnswer mode period s).state := by
  unfold setSupervisionAnswer
  split
  · exact .refl s
  · split
    · exact .refl s
    · split
      · dsimp only
        split
        · exact .same_offer (by simp)
        · exact .same (by simp)
      · exact .refl s

/-! ### The journal's own requests -/

theorem readJournalAnswer_keepsJournal (count : Byte) (s : State) :
    s.KeepsJournal (readJournalAnswer count s).state := by
  by_cases range : 1 ≤ count.toNat ∧ count.toNat ≤ 16
  · obtain ⟨one, most⟩ := range
    obtain ⟨left, split, -⟩ := takeEntries_takes s.journal.ring count.toNat Config.journalReplySpace
    rw [readJournalAnswer_takes one most rfl split]
    exact fun sound => sound.remove split
  · exact .of_eq (congrArg Answer.state (if_neg range))

theorem setJournalSelectionAnswer_keepsJournal (vs : List Byte) (s : State) :
    s.KeepsJournal (setJournalSelectionAnswer vs s).state := by
  unfold setJournalSelectionAnswer
  split
  · exact fun ⟨lawful, bounded⟩ => ⟨lawful, bounded⟩
  · exact .refl s

/-! ### The requests and the step -/

/-- What a request does to the journal. -/
theorem Request.Known.owner_keepsJournal {r : Request} (k : r.Known) (s : State) :
    s.KeepsJournal (r.owner s).state := by
  cases k with
  | readStatus | setModeOther | reset | readTestResults | misSized => exact .refl s
  | setModeOnline => exact setModeOnlineAnswer_keepsJournal s
  | setModeOffline => exact setModeOfflineAnswer_keepsJournal s
  | runTest kind => exact runTestAnswer_keepsJournal kind s
  | abortTest => exact abortTestAnswer_keepsJournal s
  | definePoint d => exact definePointAnswer_keepsJournal d s
  | deletePoint p => exact deletePointAnswer_keepsJournal p s
  | readPoint p => exact State.withNamed_keepsJournal fun _ => .refl s
  | updatePoints us => exact updatesFrom_keepsJournal us 0 ⟨s, 0, none⟩
  | forcePoint p v => exact forcePointAnswer_keepsJournal p v s
  | releasePoint p => exact releasePointAnswer_keepsJournal p s
  | inhibitPoint p => exact inhibitPointAnswer_keepsJournal p s
  | enablePoint p => exact enablePointAnswer_keepsJournal p s
  | acknowledge scope argument => exact acknowledgeAnswer_keepsJournal scope argument s
  | silence => exact s.silenceHorn_keepsJournal .host
  | readAnnunciation start count => exact .of_eq (readAnnunciationAnswer_state start count s)
  | readLoopStatus loop => exact .of_eq (readLoopStatusAnswer_state loop s)
  | readLampFaults start => exact .of_eq (readLampFaultsAnswer_state start s)
  | readOutstations first count => exact .of_eq (readOutstationsAnswer_state first count s)
  | setDeskControl enable period => exact setDeskControlAnswer_keepsJournal enable period s
  | lampTest d => exact lampTestAnswer_keepsJournal d s
  | setSupervision mode period => exact setSupervisionAnswer_keepsJournal mode period s
  | siteHeartbeat os => exact heartbeatFrom_keepsJournal os 0 ⟨s, 0, none⟩
  | readJournal count => exact readJournalAnswer_keepsJournal count s
  | setJournalSelection vs => exact setJournalSelectionAnswer_keepsJournal vs s
  | setTime time => exact .same rfl
  | setOutstationPeriods first ps =>
    show s.KeepsJournal (setOutstationPeriodsAnswer first ps s).state
    unfold setOutstationPeriodsAnswer
    split
    · exact storePeriodsFrom_keepsJournal ps _ s
    · exact .refl s
  | setHornThreshold v =>
    show s.KeepsJournal (setHornThresholdAnswer v s).state
    unfold setHornThresholdAnswer
    split <;> exact .same rfl
  | setIntensity v =>
    show s.KeepsJournal (setIntensityAnswer v s).state
    unfold setIntensityAnswer
    split <;> exact .same rfl
  | configureTile loop slot size enable =>
    show s.KeepsJournal (configureTileAnswer loop slot size enable s).state
    unfold configureTileAnswer
    split
    · exact .same (by simp)
    · exact .refl s
  | setLoopTiming loop period =>
    show s.KeepsJournal (setLoopTimingAnswer loop period s).state
    unfold setLoopTimingAnswer
    split
    · exact .refl s
    · split
      · exact .same (by simp)
      · exact .refl s
  | setCadence g prescale lit dark run =>
    show s.KeepsJournal (setCadenceAnswer g prescale lit dark run s).state
    unfold setCadenceAnswer
    split
    · exact .refl s
    · split
      · exact .same (by simp)
      · exact .refl s

theorem State.endResetReply_keepsJournal (s : State) : s.KeepsJournal s.endResetReply := by
  unfold State.endResetReply
  split
  · exact .of_sound (s.journal.afterSoftwareReset_sound s.cadence.time)
  · exact .refl s

/-- With TEST_AT_START HIGH the ring is empty, else it holds the reset entry with number 0 (R160, R161). -/
theorem State.negateReset_keepsJournal (straps : Straps) (s : State) : s.KeepsJournal (s.negateReset straps) := by
  have empty : JournalUnit.initial.Sound := JournalUnit.sound_of_empty rfl rfl
  have told : State.reset.journal.Sound :=
    empty.append 0 (o := ⟨.mode, .reset, .none, 0xFF, 0x80, [], none⟩) (Nat.zero_le 64)
  unfold State.negateReset
  dsimp only
  split
  · exact .of_sound empty
  · exact .of_sound told

/-- The journal stays sound across every single event, effect of a request and move of the queue. -/
theorem keepsJournal_stepRelation : StepRelation State.KeepsJournal where
  refl := .refl
  trans := .trans
  nextCommand _ _ := .same rfl
  startPass _ := .same (by simp)
  togglePhase _ _ := .same (by simp)
  startFrame := State.startFrame_keepsJournal
  expirePrescale _ _ := .same (by simp)
  expireFrameTimer _ _ := .same (by simp)
  expireLink := State.expireLink_keepsJournal
  expireOutstation := State.expireOutstation_keepsJournal
  expireGap _ := .same (by simp)
  expireHostTimer := State.expireHostTimer_keepsJournal
  sampleDesk := State.sampleDesk_keepsJournal
  countTick _ := .same rfl
  endPass s := by
    unfold State.endPass
    split
    · exact .refl s
    · exact .same (by simp)
  endSlot := State.endSlot_keepsJournal
  endFrame := State.endFrame_keepsJournal
  completeMemoryTest passed s := s.completeMemoryTest_keepsJournal passed
  receive := State.receive_keepsJournal
  enqueue _ _ := .same rfl
  dequeue _ _ _ _ := .same rfl
  owner _ s k := k.owner_keepsJournal s
  sendReply _ _ _ _ _ := .same rfl
  endResetReply := State.endResetReply_keepsJournal
  assertReset s := .of_sound s.journal.emptied_sound
  negateReset := State.negateReset_keepsJournal

/-- Settles O57: the journal's soundness by the relation across a step. -/
theorem stepsKeepTheJournal : Obligations.StepsKeepTheJournal :=
  fun _ _ lawful bounded e => keepsJournal_stepRelation.step e ⟨lawful, bounded⟩

end Sys2Proof.Machine

/-!
PROOFS. What comes before a command (O3): how each command is taken, and that what is due at once leaves nothing due.
-/

namespace Sys2Proof.Machine

/-! ## How each command is taken (R173; log entry 4) -/

/-- A command with a body is the service of the request that the body carries. -/
theorem exec_of_requestBody {c : Instr} {body : List Byte} (h : requestBody c = some body) :
    ∃ r, ∀ s, exec c s = s.request c r := by
  cases c with
  | softwareReset | memoryTestCompletion | deskSample | tick | prescaleExpiry | phaseToggle | passStart |
      passCompletion | frameTimerExpiry | frameStart | slotEnd | frameEnd | hostTimerExpiry | linkCountdownExpiry |
      outstationCountdownExpiry | characterReceived | gapTimerExpiry | serviceBegin | hardwareResetAssert |
      hardwareResetNegation =>
    cases h
  | _ => exact ⟨_, fun _ => rfl⟩

/-- A command that follows what is due at once: a request, or one of the events that no tick makes due. -/
theorem exec_of_followsWhatIsDue {c : Instr} (h : followsWhatIsDue c = true) :
    ∃ f, ∀ s, exec c s = s.takesAfterDue f := by
  cases request : requestBody c with
  | some body =>
    obtain ⟨r, served⟩ := exec_of_requestBody request
    exact ⟨fun s => if s.linkIdle then s.serve r else s.await c, served⟩
  | none =>
    cases c with
    | softwareReset => exact ⟨State.endResetReply, fun _ => rfl⟩
    | memoryTestCompletion passed => exact ⟨fun s => s.completeMemoryTest passed, fun _ => rfl⟩
    | tick => exact ⟨fun s => s.beforeTick.countTick, fun _ => rfl⟩
    | passCompletion => exact ⟨State.endPass, fun _ => rfl⟩
    | slotEnd l window => exact ⟨fun s => s.endSlot l window, fun _ => rfl⟩
    | frameEnd l => exact ⟨fun s => s.endFrame l, fun _ => rfl⟩
    | characterReceived char => exact ⟨State.receive char, fun _ => rfl⟩
    | serviceBegin => exact ⟨State.beginService, fun _ => rfl⟩
    | prescaleExpiry | phaseToggle | deskSample | hostTimerExpiry | linkCountdownExpiry | outstationCountdownExpiry |
        gapTimerExpiry | frameTimerExpiry | frameStart | passStart | hardwareResetAssert | hardwareResetNegation =>
      cases h
    | _ => cases request

/-- An event that falls due at a tick. -/
theorem exec_of_fallsDueAtATick {c : Instr} (h : fallsDueAtATick c = true) :
    ∃ f, ∀ s, exec c s = s.takesAfterFollowUps f := by
  cases c with
  | prescaleExpiry g => exact ⟨State.expirePrescale g, fun _ => rfl⟩
  | deskSample pins => exact ⟨State.sampleDesk pins, fun _ => rfl⟩
  | hostTimerExpiry => exact ⟨State.expireHostTimer, fun _ => rfl⟩
  | linkCountdownExpiry => exact ⟨State.expireLink, fun _ => rfl⟩
  | outstationCountdownExpiry n => exact ⟨State.expireOutstation n, fun _ => rfl⟩
  | gapTimerExpiry => exact ⟨State.expireGap, fun _ => rfl⟩
  | frameTimerExpiry l => exact ⟨State.expireFrameTimer l, fun _ => rfl⟩
  | _ => cases h

/-- Every command but the two edges of the reset pin is an event that the part takes in its turn. -/
theorem exec_eq_takes {c : Instr} (notAssert : c ≠ .hardwareResetAssert)
    (notNegation : ∀ straps, c ≠ .hardwareResetNegation straps) : ∃ f, ∀ s, exec c s = s.takes f := by
  cases follows : followsWhatIsDue c
  · cases ofTick : fallsDueAtATick c
    · cases c with
      | phaseToggle g => exact ⟨fun s => s.startPass.togglePhase g, fun _ => rfl⟩
      | frameStart l => exact ⟨fun s => s.startPass.startFrame l, fun _ => rfl⟩
      | passStart => exact ⟨State.startPass, fun _ => rfl⟩
      | hardwareResetAssert => exact absurd rfl notAssert
      | hardwareResetNegation straps => exact absurd rfl (notNegation straps)
      | prescaleExpiry | deskSample | hostTimerExpiry | linkCountdownExpiry | outstationCountdownExpiry |
          gapTimerExpiry | frameTimerExpiry =>
        cases ofTick
      | _ => cases follows
    · obtain ⟨f, taken⟩ := exec_of_fallsDueAtATick ofTick
      exact ⟨fun s => f s.followUps, taken⟩
  · obtain ⟨f, taken⟩ := exec_of_followsWhatIsDue follows
    exact ⟨fun s => f s.atOnce, taken⟩

theorem State.takes_in_reset {s : State} (h : s.inReset = true) (f : State → State) : s.takes f = .next s := by
  simp [State.takes, h]

theorem State.assertReset_assertReset (s : State) : s.assertReset.assertReset = s.assertReset := rfl

/-! ## Nothing is left due at once (R71, R104) -/

/-- Taking an expiry reloads the prescale counter of that generator and leaves the others'. -/
theorem State.prescaleDue_expirePrescale (s : State) (g h : Generator) :
    (s.expirePrescale g).prescaleDue h = if h = g then false else s.prescaleDue h := by
  cases due : s.prescaleDue g
  · rw [State.expirePrescale_undue due]
    split
    · next same => rw [same, due]
    · rfl
  · rw [State.expirePrescale_due due]
    split
    · next same => simp [State.prescaleDue, same, CadenceGenerator.expired]
    · next other => simp [State.prescaleDue, CadenceUnit.generator_withGenerator_other _ _ _ _ other]

/-- A toggle leaves every prescale counter. -/
theorem State.prescaleDue_togglePhase (s : State) (g h : Generator) :
    (s.togglePhase g).prescaleDue h = s.prescaleDue h := by
  cases due : s.toggleDue g
  · rw [State.togglePhase_undue due]
  · rw [State.togglePhase_due due]
    by_cases same : h = g
    · subst same
      cases phase : (s.cadence.generator h).phase <;> simp [State.prescaleDue, CadenceGenerator.toggled, phase]
    · simp [State.prescaleDue, CadenceUnit.generator_withGenerator_other _ _ _ _ same]

theorem State.prescaleDue_settleGenerator (s : State) (g h : Generator) :
    (s.settleGenerator g).prescaleDue h = if h = g then false else s.prescaleDue h := by
  rw [State.settleGenerator, State.prescaleDue_togglePhase, State.prescaleDue_expirePrescale]

/-- An expiry steps the phase counter of its generator alone, and the toggle it may bring is taken with it. -/
theorem State.toggleDue_settleGenerator (s : State) (g h : Generator) :
    (s.settleGenerator g).toggleDue h = if h = g then false else s.toggleDue h := by
  rw [State.settleGenerator, State.toggleDue_togglePhase]
  split
  · rfl
  · next other =>
    cases due : s.prescaleDue g
    · rw [State.expirePrescale_undue due]
    · rw [State.expirePrescale_due due]
      simp [State.toggleDue, CadenceUnit.generator_withGenerator_other _ _ _ _ other]

theorem State.loop_expireFrameTimer_other (s : State) {l m : Loop} (other : m ≠ l) :
    (s.expireFrameTimer l).loop m = s.loop m := by
  unfold State.expireFrameTimer
  split
  · rw [State.loop_withLoop_other _ _ _ _ other]
  · rfl

theorem State.frameTimerDue_congr {s t : State} {l : Loop} (h : t.loop l = s.loop l) :
    t.frameTimerDue l = s.frameTimerDue l := by
  rw [State.frameTimerDue, State.frameTimerDue, h]

/-- A frame timer's expiry that has been taken stands as a pending frame start. -/
theorem State.frameTimerDue_expireFrameTimer (s : State) (l : Loop) :
    (s.expireFrameTimer l).frameTimerDue l = false := by
  unfold State.expireFrameTimer
  split
  · simp [State.frameTimerDue]
  · next undue => exact Bool.eq_false_iff.mpr undue

theorem State.timer_sendHeader (s : State) (l : Loop) : ((s.sendHeader l).loop l).timer = (s.loop l).timer := by
  unfold State.sendHeader
  split
  · rfl
  · rw [State.loop_withLoop]

/-- A frame start that is due loads the frame timer. -/
theorem State.timer_startFrame {s : State} {l : Loop} (due : s.frameStartDue l = true) :
    ((s.startFrame l).loop l).timer = .counting (s.loop l).period := by
  obtain ⟨-, -, goesOn⟩ := (s.frameStartDue_iff l).mp due
  rcases goesOn with running | testing
  · have starts : s.startFrame l = s.startNormalFrame l := by simp only [State.startFrame, due, running, if_true]
    rw [starts, State.startNormalFrame_eq]
    cases l <;> rfl
  · have starts : s.startFrame l = s.startTestFrame l := by simp only [State.startFrame, due, testing, if_true]
    rw [starts, State.startTestFrame, State.timer_sendHeader, State.loop_withLoop]
    rfl

/-- A frame start makes no expiry of its frame timer due. -/
theorem State.frameTimerDue_startFrame {s : State} {l : Loop} (undue : s.frameTimerDue l = false) :
    (s.startFrame l).frameTimerDue l = false := by
  cases starts : s.frameStartDue l
  · rw [State.startFrame_undue starts, undue]
  · simp [State.frameTimerDue, State.timer_startFrame starts]

/-- A frame timer's expiry, and the frame start it may bring, leave neither due for their loop. -/
theorem State.timerNow_undue (s : State) (l : Loop) :
    (s.timerNow l).frameStartDue l = false ∧ (s.timerNow l).frameTimerDue l = false := by
  have started : (s.timerNow l).loop l = ((s.expireFrameTimer l).startFrame l).loop l := State.loop_startPass _ l
  rw [State.frameStartDue_congr started, State.frameTimerDue_congr started]
  exact ⟨State.frameStartDue_startFrame _ l,
    State.frameTimerDue_startFrame (State.frameTimerDue_expireFrameTimer s l)⟩

theorem State.loop_timerNow_other (s : State) {l m : Loop} (other : m ≠ l) : (s.timerNow l).loop m = s.loop m := by
  rw [State.timerNow, State.frameNow, State.loop_startPass, State.startFrame_other _ other,
    State.loop_expireFrameTimer_other _ other]

theorem State.timerNow_cadence (s : State) (l : Loop) : (s.timerNow l).cadence = s.cadence := by
  unfold State.timerNow State.frameNow State.expireFrameTimer
  split <;> simp

theorem State.prescaleDue_congr {s t : State} (h : t.cadence = s.cadence) (g : Generator) :
    t.prescaleDue g = s.prescaleDue g := by
  rw [State.prescaleDue, State.prescaleDue, h]

/-- What is due at once leaves nothing due at once. -/
theorem State.atOnce_quiet (s : State) : s.atOnce.quiet = true := by
  let settled := ((s.followUps.settleGenerator .fast).settleGenerator .slow).settleGenerator .wink
  have last : s.atOnce = (settled.timerNow .a).timerNow .b := rfl
  have cadence : s.atOnce.cadence = settled.cadence := by
    rw [last, State.timerNow_cadence, State.timerNow_cadence]
  have toggles (g : Generator) : s.atOnce.toggleDue g = false := by
    rw [State.toggleDue_congr cadence]
    cases g <;> simp [settled, State.toggleDue_settleGenerator]
  have prescales (g : Generator) : s.atOnce.prescaleDue g = false := by
    rw [State.prescaleDue_congr cadence]
    cases g <;> simp [settled, State.prescaleDue_settleGenerator]
  have loopA : s.atOnce.loop .a = (settled.timerNow .a).loop .a := State.loop_timerNow_other _ (by decide)
  obtain ⟨startA, timerA⟩ := settled.timerNow_undue .a
  rw [← State.frameStartDue_congr loopA] at startA
  rw [← State.frameTimerDue_congr loopA] at timerA
  obtain ⟨startB, timerB⟩ := (settled.timerNow .a).timerNow_undue .b
  rw [← last] at startB timerB
  have pass : s.atOnce.passDue = false := State.passDue_startPass _
  simp [State.quiet, State.ready, toggles, prescales, startA, timerA, startB, timerB, pass]

/-- Settles O3: an event is not taken in reset, and taking what is due first leaves nothing more to take first. -/
theorem whatIsDueComesFirst : Obligations.WhatIsDueComesFirst := by
  refine ⟨fun c s inReset notAssert notNegation => ?_, fun s t asserted => ?_, fun s running => ?_⟩
  · obtain ⟨f, taken⟩ := exec_eq_takes notAssert notNegation
    rw [taken, State.takes_in_reset inReset]
  · cases Host.Outcome.next.inj asserted
    exact congrArg Host.Outcome.next s.assertReset_assertReset
  · have attends : s.atOnce.attends = true := by simp [State.attends, running, State.atOnce_quiet]
    have expires : s.followUps.takesExpiries = true := by simp [State.takesExpiries, running, State.followUps_ready]
    have startsRunning : s.startPass.inReset = false := by simp [running]
    have started : s.startPass.passDue = false := s.passDue_startPass
    refine ⟨attends, expires, started, fun c follows => ?_, fun c ofTick => ?_, fun g => ?_, fun l => ?_⟩
    · obtain ⟨f, taken⟩ := exec_of_followsWhatIsDue follows
      rw [taken, taken, State.takesAfterDue_of_attends attends]
      exact State.takes_of_running running _
    · obtain ⟨f, taken⟩ := exec_of_fallsDueAtATick ofTick
      rw [taken, taken, State.takesAfterFollowUps_of_takesExpiries expires]
      exact State.takes_of_running running _
    · rw [exec_phaseToggle startsRunning started]
      exact State.takes_of_running running fun u => u.startPass.togglePhase g
    · rw [exec_frameStart startsRunning started]
      exact State.takes_of_running running fun u => u.startPass.startFrame l

end Sys2Proof.Machine

/-!
PROOFS. READ STATUS (O12) and READ TEST RESULTS (O13); the software reset (O54) and the hardware reset (O55).
-/

namespace Sys2Proof.Machine

/-! ## What the part reports (R171, R172) -/

/-- READ STATUS by the bytes of Table 11-14, the identity written out. -/
theorem readStatusAnswer_eq (s : State) :
    readStatusAnswer s =
      { state := s
        payload :=
          [0x4B, 0x10, 0x00, 1, byteOf s.mode.device.code, byteOf s.mode.test.kind.code,
            byteOf s.mode.test.state.code, byteOf s.loopA.state.code, flagByte s.loopA.repeated,
            byteOf s.loopB.state.code, flagByte s.loopB.repeated, byteOf s.supervision.link.mode.code,
            s.supervision.link.state.code] ++
            halfBytes s.points.table.cells.length ++ halfBytes s.alarm.list.length ++
            halfBytes s.journal.ring.length ++ [byteOf s.alarm.horn.code, flagByte s.mode.lampTestActive] } := rfl

/-- Settles O12: READ STATUS passes the gate in any test state, and its owner reads Table 11-14 off the part. -/
theorem readStatusReportsThePart : Obligations.ReadStatusReportsThePart := fun s serves =>
  State.request_taken_always (r := readStatusRequest) serves .readStatus rfl rfl
    (show (0x01 : Byte) ≠ resetKind by decide) (readStatusAnswer_eq s)

/-- READ TEST RESULTS lists the results of the tiles by their index (Table 11-19). -/
theorem readTestResultsAnswer_eq (s : State) :
    readTestResultsAnswer s =
      { state := s
        payload :=
          [byteOf s.mode.test.kind.code, byteOf s.mode.test.state.code, byteOf s.mode.test.framesA,
            byteOf s.mode.test.framesB] ++
            (List.finRange 64).map fun t => byteOf (s.mode.test.results.get t).code } := by
  rw [readTestResultsAnswer, Bank.rows_eq_map_get, List.map_map]
  rfl

/-- Settles O13: READ TEST RESULTS passes the gate in any test state, and its owner reads the test record. -/
theorem readTestResultsReportsTheRecord : Obligations.ReadTestResultsReportsTheRecord := fun s serves =>
  State.request_taken_always (r := readTestResultsRequest) serves .readTestResults rfl rfl
    (show (0x06 : Byte) ≠ resetKind by decide) (readTestResultsAnswer_eq s)

/-! ## The reply to RESET (R174, R179) -/

/-- RESET passes the gate in any test state; its OK reply is the one at whose end the software reset is carried out. -/
theorem State.serve_reset (s : State) : s.serve resetRequest = s.sendReply 0x83 .ok [] true := by
  rw [State.serve, State.gate_passes_always rfl rfl]
  rfl

theorem State.resetReplying_iff (s : State) :
    s.resetReplying = true ↔ ∃ r, s.link.reply = some r ∧ r.ofReset = true := by
  unfold State.resetReplying
  split
  · next r sends => simp [sends]
  · next idle => simp [idle]

/-- While the reply to RESET is being sent the transmitter is not free. -/
theorem State.txdIdle_of_resetReplying {s : State} (h : s.resetReplying = true) : s.txdIdle = false := by
  obtain ⟨r, sends, -⟩ := s.resetReplying_iff.mp h
  simp [State.txdIdle, sends]

theorem exec_serviceBegin {s : State} (attends : s.attends = true) : exec .serviceBegin s = .next s.beginService :=
  State.takesAfterDue_of_attends attends State.beginService

theorem exec_softwareReset {s : State} (attends : s.attends = true) :
    exec .softwareReset s = .next s.endResetReply :=
  State.takesAfterDue_of_attends attends State.endResetReply

/-! ## The software reset, block by block (R174) -/

/-- The supervision records keep mode and period, with every supervised state HEALTHY and its countdown loaded (R150). -/
theorem SupervisionUnit.afterSoftwareReset_eq (u : SupervisionUnit) :
    u.afterSoftwareReset =
      { link :=
          ⟨u.link.mode, u.link.period,
            if u.link.mode = .off then .stopped (u.link.period * 1000) else .counting (u.link.period * 1000),
            .healthy⟩
        outstations := u.outstations.map fun o =>
          if o.period = 0 then ⟨0, .stopped 0, .unsupervised⟩
          else ⟨o.period, .counting (o.period * 1000), .healthy⟩ } := by
  rw [SupervisionUnit.afterSoftwareReset, LinkRecord.loaded_of_healthy rfl]
  rfl

/-- A loop keeps its period and the sizes and enable flags of its tiles (R122, R123). -/
theorem LoopController.afterSoftwareReset_eq (c : LoopController) (intensity : Fin 16) :
    c.afterSoftwareReset intensity =
      ⟨.stopped, c.period, .stopped 0, none, false, ⟨Bank.fill 32 0, intensity⟩, ⟨Bank.fill 32 0, intensity⟩, false,
        Bank.fill 32 0, Bank.fill 32 none, Bank.fill 32 false, Bank.fill 32 false, false,
        Bank.make fun slot =>
          ⟨(c.tiles.get slot).size, (c.tiles.get slot).enabled,
            if (c.tiles.get slot).enabled then .joining else .disabled, 0, 0, false⟩,
        []⟩ := by
  rw [LoopController.afterSoftwareReset, Bank.map_eq_make]
  rfl

theorem PointRecord.afterSoftwareReset_eq (r : PointRecord) :
    r.afterSoftwareReset =
      { r with
        live := none, forced := none, lastChange := none
        alarm := if r.alarm.isSome then some .normal else none } := by
  unfold PointRecord.afterSoftwareReset
  cases r.alarm <;> rfl

/-- The keys of a table are kept when every value is passed through a function. -/
theorem Sparse.keys_map {α : Type} (f : α → α) (t : Sparse α) :
    (t.map f).cells.map Prod.fst = t.cells.map Prod.fst := by
  rw [Sparse.map, List.map_map]
  rfl

/-- Settles O54: the reply, what waits behind it, and its end by whether it is that of RESET. -/
theorem softwareResetIsCarriedOut : Obligations.SoftwareResetIsCarriedOut := by
  refine ⟨fun s serves => ?_, fun s attends replying => ⟨?_, fun c body carries => ?_⟩, fun s attends => ⟨?_, ?_⟩⟩
  · rw [← State.serve_reset]
    exact State.request_of_serves serves .reset resetRequest
  · have busy : s.serviceDue = false := by simp [State.serviceDue, State.txdIdle_of_resetReplying replying]
    rw [exec_serviceBegin attends, State.beginService_undue busy]
  · obtain ⟨r, served⟩ := exec_of_requestBody carries
    have busy : s.linkIdle = false := by simp [State.linkIdle, State.txdIdle_of_resetReplying replying]
    rw [served, State.request_waits attends busy carries]
  · intro other
    rw [exec_softwareReset attends, State.endResetReply, other]
    rfl
  · intro replying filter generator dark stopped link
    have ended : s.endResetReply = s.softwareReset := if_pos replying
    refine ⟨s.points.table.map PointRecord.afterSoftwareReset, fun p => ?_, Sparse.keys_map _ _, ?_⟩
    · rw [Sparse.get?_map, State.point?_eq]
      exact congrArg (Option.map · _) (funext PointRecord.afterSoftwareReset_eq)
    · rw [exec_softwareReset attends, ended, State.softwareReset, LoopController.afterSoftwareReset_eq,
        LoopController.afterSoftwareReset_eq, SupervisionUnit.afterSoftwareReset_eq]
      rfl

/-! ## The hardware reset (R173) -/

/-- Settles O55: the assertion as it is defined, the negation by the level of TEST_AT_START. -/
theorem hardwareResetIsCarriedOut : Obligations.HardwareResetIsCarriedOut := by
  refine ⟨fun s => rfl, ?_⟩
  intro s straps filter generator dark stopped selection
  have negated : exec (.hardwareResetNegation straps) s = .next (s.negateReset straps) := rfl
  rw [negated, State.negateReset]
  cases testAtStart : straps.testAtStart <;> rfl

end Sys2Proof.Machine

/-!
PROOFS. LAMP TEST and the host timer's expiry (O36), SET MODE (O48).
-/

namespace Sys2Proof.Machine

/-! ## The lamp test (R164, R165, Table 10-2) -/

/-- The OPERATOR entry of the start or the end of the lamp test (Table 10-1). -/
def Offer.lampTest (source : Source) (begins : Bool) : Offer :=
  ⟨.operator, source, .none, 2, flagByte begins, [], none⟩

/-- A change of the host timer and the desk hold has its entry exactly when the lamp-test state changes. -/
theorem State.setLampTest_eq (s : State) (source : Source) (timer : Timer) (hold : Bool) :
    s.setLampTest source timer hold =
      { s with
        mode := { s.mode with hostTimer := timer, deskHold := hold }
        journal :=
          if s.mode.lampTestActive = (timer.runs || hold) then s.journal
          else (s.offer (.lampTest source (timer.runs || hold))).journal } := by
  let moved : State := { s with mode := { s.mode with hostTimer := timer, deskHold := hold } }
  by_cases same : s.mode.lampTestActive = (timer.runs || hold)
  · rw [if_pos same]
    exact if_pos same
  · have told : (moved.offer (.lampTest source (timer.runs || hold))).journal =
        (s.offer (.lampTest source (timer.runs || hold))).journal := State.offer_journal_congr rfl rfl _
    have offers : s.setLampTest source timer hold = moved.offer (.lampTest source (timer.runs || hold)) :=
      if_neg same
    rw [if_neg same, offers, State.offer_eq_withJournal, told]

section LampTest

variable {s : State} {d : Nat} (range : d ≤ 60)
include range

theorem lampTestAnswer_offline (offline : s.mode.device = .offline) :
    lampTestAnswer (byteOf d) s = s.refuse .mode := by
  have value : (byteOf d).toNat = d := toNat_byteOf (by omega)
  simp [lampTestAnswer, value, range, offline]

theorem lampTestAnswer_online (online : s.mode.device = .online) :
    lampTestAnswer (byteOf d) s =
      { state := s.setLampTest .host (s.mode.hostTimer.lampTest d) s.mode.deskHold
        payload :=
          [flagByte ((s.mode.hostTimer.lampTest d).runs || s.mode.deskHold), flagByte s.mode.deskHold,
            byteOf (s.mode.hostTimer.lampTest d).seconds] } := by
  have value : (byteOf d).toNat = d := toNat_byteOf (by omega)
  have taken : lampTestAnswer (byteOf d) s =
      { state := s.setLampTest .host (s.mode.hostTimer.lampTest d) s.mode.deskHold
        payload :=
          let m := (s.setLampTest .host (s.mode.hostTimer.lampTest d) s.mode.deskHold).mode
          [flagByte m.lampTestActive, flagByte m.deskHold, byteOf m.hostTimer.seconds] } := by
    simp [lampTestAnswer, value, range, online]
  rw [taken, State.setLampTest_eq]
  rfl

end LampTest

theorem exec_hostTimerExpiry {s : State} (takes : s.takesExpiries = true) :
    exec .hostTimerExpiry s = .next s.expireHostTimer :=
  State.takesAfterFollowUps_of_takesExpiries takes State.expireHostTimer

/-- The lamp test ends with the host timer unless the desk hold is set. -/
theorem State.expireHostTimer_due {s : State} (due : s.mode.hostTimer = .expired) :
    s.expireHostTimer =
      { s with
        mode := { s.mode with hostTimer := .stopped 0 }
        journal :=
          if s.mode.deskHold then s.journal else (s.offer (.lampTest .host false)).journal } := by
  have ends : s.expireHostTimer = s.setLampTest .host (.stopped 0) s.mode.deskHold := if_pos (decide_eq_true due)
  rw [ends, State.setLampTest_eq]
  cases hold : s.mode.deskHold <;> simp [ModeController.lampTestActive, Timer.runs, due, hold]

/-- Settles O36: LAMP TEST by the device mode, the host timer's expiry by whether it is due. -/
theorem lampTestFollowsItsTable : Obligations.LampTestFollowsItsTable := by
  refine ⟨fun s d o range => ⟨fun offline => ?_, fun online => ?_⟩, fun s takes => ⟨fun undue => ?_, fun due => ?_⟩⟩
  · exact State.request_refused (r := lampTestRequest _) o (.lampTest _) rfl (by decide)
      (lampTestAnswer_offline range offline)
  · intro timer was now
    have served := State.request_taken (r := lampTestRequest _) o (.lampTest (byteOf d)) rfl
      (show (0x33 : Byte) ≠ resetKind by decide) (lampTestAnswer_online range online)
    rw [State.setLampTest_eq] at served
    exact served
  · have undue : s.hostTimerDue = false := decide_eq_false undue
    rw [exec_hostTimerExpiry takes, State.expireHostTimer_undue undue]
  · rw [exec_hostTimerExpiry takes, State.expireHostTimer_due due]
    rfl

/-! ## SET MODE ONLINE (R162, R101, R102) -/

/-- HORN derived while RESET is not asserted. -/
theorem State.deriveHorn_running {s : State} (running : s.inReset = false) :
    s.deriveHorn = { s with alarm := s.hornAt s.cadence.fast.phase } := by
  rw [State.deriveHorn, State.hornAt, running]

/-- A loop controller at SET MODE ONLINE (Table 6-2). -/
def LoopController.online (c : LoopController) (intensity : Fin 16) : LoopController :=
  if c.state = .stopped then
    { c with state := .running, front := ⟨Bank.fill 32 0, intensity⟩, timer := .counting c.period }
  else if c.state = .stopping then { c with state := .running }
  else c

/-- Whether a loop asks for a pass at SET MODE ONLINE: it starts, or goes on with its back image INCOMPLETE (R83). -/
def LoopController.asksOnline (c : LoopController) : Bool :=
  decide (c.state = .stopped ∨ (c.state = .stopping ∧ c.backComplete = false))

theorem State.withLoop_askCompose (s : State) (l : Loop) (c : LoopController) :
    (s.withLoop l c).askCompose l = { s.withLoop l c with composer := s.composer.ask l } := by
  cases l <;> rfl

theorem State.withLoop_composer_same (s : State) (l : Loop) (c : LoopController) :
    { s.withLoop l c with composer := s.composer } = s.withLoop l c := by
  cases l <;> rfl

theorem State.loopOnline_eq (s : State) (l : Loop) :
    s.loopOnline l =
      { s.withLoop l ((s.loop l).online s.intensity) with
        composer := if (s.loop l).asksOnline then s.composer.ask l else s.composer } := by
  unfold State.loopOnline
  split
  · next stopped =>
    simp only [LoopController.online, LoopController.asksOnline, stopped, if_true, true_or, decide_true]
    exact s.withLoop_askCompose l _
  · next stopping =>
    have goesOn : (s.loop l).online s.intensity = { s.loop l with state := .running } := by
      simp [LoopController.online, stopping]
    by_cases complete : (s.loop l).backComplete = true
    · have resumed : s.resumeLoop l = s.withLoop l { s.loop l with state := .running } := if_pos complete
      have silent : (s.loop l).asksOnline = false := by simp [LoopController.asksOnline, stopping, complete]
      rw [resumed, goesOn, silent]
      exact (s.withLoop_composer_same l _).symm
    · have resumed : s.resumeLoop l = (s.withLoop l { s.loop l with state := .running }).askCompose l :=
        if_neg complete
      have asks : (s.loop l).asksOnline = true := by simp [LoopController.asksOnline, stopping, complete]
      rw [resumed, goesOn, asks]
      exact s.withLoop_askCompose l _
  · next running => simp [LoopController.online, LoopController.asksOnline, running]
  · next testing => simp [LoopController.online, LoopController.asksOnline, testing]

/-- The MODE entry of a change of the device mode (R162, R163). -/
def Offer.mode (old new : DeviceMode) : Offer :=
  ⟨.mode, .host, .none, byteOf old.code, byteOf new.code, [], none⟩

theorem setModeOnlineAnswer_same {s : State} (online : s.mode.device = .online) :
    setModeOnlineAnswer s = { state := s } := by
  rw [setModeOnlineAnswer, online]

theorem setModeOnlineAnswer_change {s : State} (running : s.inReset = false) (offline : s.mode.device = .offline) :
    setModeOnlineAnswer s =
      { state :=
          { s with
            loopA := s.loopA.online s.intensity
            loopB := s.loopB.online s.intensity
            composer :=
              if s.loopB.asksOnline then (if s.loopA.asksOnline then s.composer.ask .a else s.composer).ask .b
              else if s.loopA.asksOnline then s.composer.ask .a else s.composer
            mode := { s.mode with device := .online }
            alarm :=
              { s.alarm with
                horn := hornOf false .online s.alarm.list
                hornPin := hornSignal (hornOf false .online s.alarm.list) s.cadence.fast.phase }
            journal := (s.offer (.mode .offline .online)).journal } } := by
  let moved := ((s.withDevice .online).loopOnline .a).loopOnline .b
  have taken : setModeOnlineAnswer s = { state := moved.deriveHorn.offer (.mode .offline .online) } := by
    rw [setModeOnlineAnswer, offline]
    rfl
  have told : (moved.deriveHorn.offer (.mode .offline .online)).journal =
      (s.offer (.mode .offline .online)).journal :=
    State.offer_journal_congr (by simp [moved]) (by simp [moved]) _
  have horn : moved.deriveHorn = { moved with alarm := moved.hornAt moved.cadence.fast.phase } :=
    State.deriveHorn_running (by simp [moved, running])
  rw [taken, State.offer_eq_withJournal, told, horn]
  simp only [moved, State.loopOnline_eq]
  rfl

/-! ## SET MODE OFFLINE (R163, R85, R102) -/

/-- A loop controller at SET MODE OFFLINE (R102). -/
def LoopController.offline (c : LoopController) : LoopController :=
  if c.state = .running then (if c.transfer.isSome then { c with state := .stopping } else c.stop) else c

/-- What SET MODE OFFLINE does to the compose request and the pass of a loop (R85). -/
def Composer.offline (x : Composer) (c : LoopController) (l : Loop) : Composer :=
  if c.state = .running then (if c.transfer.isSome then x.withdraw l else x.drop l) else x

theorem State.loopOffline_eq (s : State) (l : Loop) :
    s.loopOffline l =
      { s.withLoop l (s.loop l).offline with composer := s.composer.offline (s.loop l) l } := by
  unfold State.loopOffline
  split
  · next running =>
    simp only [LoopController.offline, Composer.offline, running, if_true]
    split <;> rfl
  · next stopping => simp [LoopController.offline, Composer.offline, stopping]
  · next stopped => simp [LoopController.offline, Composer.offline, stopped]
  · next testing => simp [LoopController.offline, Composer.offline, testing]

theorem setModeOfflineAnswer_same {s : State} (offline : s.mode.device = .offline) :
    setModeOfflineAnswer s = { state := s } := by
  rw [setModeOfflineAnswer, offline]

/-- SET MODE OFFLINE stops what the mode needs; the lamp test ends with it, and so has its entry, if it was active. -/
theorem setModeOfflineAnswer_change {s : State} (online : s.mode.device = .online) :
    setModeOfflineAnswer s =
      { state :=
          { s with
            loopA := s.loopA.offline
            loopB := s.loopB.offline
            composer := (s.composer.offline s.loopA .a).offline s.loopB .b
            mode := { s.mode with device := .offline, hostTimer := .stopped 0, deskHold := false }
            alarm := { s.alarm with horn := .quiet, hornPin := false }
            journal :=
              if s.mode.lampTestActive then
                ((s.offer (.mode .online .offline)).offer (.lampTest .host false)).journal
              else (s.offer (.mode .online .offline)).journal } } := by
  let stopped := (((s.withDevice .offline).deriveHorn).loopOffline .a).loopOffline .b
  let quiet : State := { stopped with mode := { stopped.mode with hostTimer := .stopped 0, deskHold := false } }
  let told := s.offer (.mode .online .offline)
  have taken : setModeOfflineAnswer s =
      { state :=
          if s.mode.lampTestActive then (quiet.offer (.mode .online .offline)).offer (.lampTest .host false)
          else quiet.offer (.mode .online .offline) } := by
    rw [setModeOfflineAnswer, online]
    rfl
  have mode : (quiet.offer (.mode .online .offline)).journal = told.journal :=
    State.offer_journal_congr (by simp [quiet, stopped]) (by simp [quiet, stopped]) _
  have both : ((quiet.offer (.mode .online .offline)).offer (.lampTest .host false)).journal =
      (told.offer (.lampTest .host false)).journal :=
    State.offer_journal_congr mode (by simp [quiet, stopped, told]) _
  have horn : (s.withDevice .offline).deriveHorn =
      { s.withDevice .offline with alarm := { s.alarm with horn := .quiet, hornPin := false } } := by
    simp [State.deriveHorn, hornOf, hornSignal]
  have quiet_eq : quiet =
      { s with
        loopA := s.loopA.offline
        loopB := s.loopB.offline
        composer := (s.composer.offline s.loopA .a).offline s.loopB .b
        mode := { s.mode with device := .offline, hostTimer := .stopped 0, deskHold := false }
        alarm := { s.alarm with horn := .quiet, hornPin := false } } := by
    simp only [quiet, stopped, State.loopOffline_eq, horn]
    rfl
  rw [taken]
  cases s.mode.lampTestActive
  · simp only [Bool.false_eq_true, if_false]
    rw [State.offer_eq_withJournal, mode, quiet_eq]
  · simp only [if_true]
    rw [State.offer_eq_withJournal, both, State.offer_eq_withJournal, quiet_eq]

/-- Settles O48: either request by the mode it finds. -/
theorem modeChangesAreCarriedOut : Obligations.ModeChangesAreCarriedOut := by
  intro s o was
  have running : s.inReset = false := State.running_of_open o
  have online {u : State} (a : setModeOnlineAnswer s = { state := u }) :
      exec .setModeOnline s = .next (u.sendReply 0x82 .ok [] false) :=
    State.request_taken (r := setModeOnlineRequest) o .setModeOnline rfl
      (show (0x02 : Byte) ≠ resetKind by decide) a
  have offline {u : State} (a : setModeOfflineAnswer s = { state := u }) :
      exec .setModeOffline s = .next (u.sendReply 0x82 .ok [] false) :=
    State.request_taken (r := setModeOfflineRequest) o .setModeOffline rfl
      (show (0x02 : Byte) ≠ resetKind by decide) a
  refine ⟨fun stays => ?_, fun stays => ?_, fun found => ?_, fun found => ?_⟩
  · exact online (setModeOnlineAnswer_same stays)
  · exact offline (setModeOfflineAnswer_same stays)
  · intro up asks afterA
    exact online (setModeOnlineAnswer_change running found)
  · intro down claim told
    exact offline (setModeOfflineAnswer_change found)

end Sys2Proof.Machine

/-!
PROOFS. The tests: RUN TEST and the memory test (O51), the verdict of a loop test and ABORT TEST (O50).
-/

namespace Sys2Proof.Machine

/-! ## RUN TEST (R166) -/

theorem runTestAnswer_refused {s : State} {kind : Byte} (known : kind = 1 ∨ kind = 2)
    (busy : s.mode.device = .online ∨ s.loopA.state ≠ .stopped ∨ s.loopB.state ≠ .stopped) :
    runTestAnswer kind s = s.refuse .mode := by
  have held : ¬ (s.mode.device = .offline ∧ s.loopA.state = .stopped ∧ s.loopB.state = .stopped) := by
    rintro ⟨offline, stoppedA, stoppedB⟩
    rcases busy with online | runsA | runsB
    · simp [online] at offline
    · exact runsA stoppedA
    · exact runsB stoppedB
  rw [runTestAnswer, if_pos known, if_neg held]

/-- The state with a test of a kind just started, before what its start does to the rest of the part. -/
def State.withTestStarted (s : State) (kind : TestKind) : State :=
  { s with mode := { s.mode with test := TestRecord.started kind } }

section RunTest

variable {s : State} (offline : s.mode.device = .offline) (stoppedA : s.loopA.state = .stopped)
  (stoppedB : s.loopB.state = .stopped)
include offline stoppedA stoppedB

theorem runTestAnswer_memory :
    runTestAnswer 1 s = { state := (s.withTestStarted .memory).clearForMemoryTest } := by
  rw [runTestAnswer, if_pos (.inl rfl), if_pos ⟨offline, stoppedA, stoppedB⟩]
  rfl

theorem runTestAnswer_loop :
    runTestAnswer 2 s = { state := ((s.withTestStarted .loop).startLoopTest .a).startLoopTest .b } := by
  rw [runTestAnswer, if_pos (.inr rfl), if_pos ⟨offline, stoppedA, stoppedB⟩]
  rfl

end RunTest

/-! ## The memory test (R167) -/

/-- How far the pass in flight has come does not hang on the Mode Controller. -/
theorem State.catchUp_withMode (s : State) (m : ModeController) :
    ({ s with mode := m } : State).catchUp = { s.catchUp with mode := m } := by
  cases pass : s.composer.pass with
  | none => rw [State.catchUp_idle pass, State.catchUp_idle (s := { s with mode := m }) pass]
  | some p =>
    rw [State.catchUp_composing pass, State.catchUp_composing (s := { s with mode := m }) pass]
    rfl

/-- While OFFLINE, HORN derived again is QUIET. -/
theorem State.clearForMemoryTest_eq {s : State} (offline : s.mode.device = .offline) :
    s.clearForMemoryTest =
      { s with
        points := ⟨⟨[]⟩, ⟨[]⟩⟩
        proving := ⟨[]⟩
        alarm := { s.alarm with list := [], horn := .quiet, hornPin := false }
        journal := { s.journal with ring := [], attn := false }
        composer := s.catchUp.composer
        freeIndex := s.catchUp.freeIndex } := by
  have cleared : (s.catchUp.withList []).alarm =
      { s.alarm with list := [], horn := .quiet, hornPin := false } := by
    simp [State.withList_alarm, hornOf, hornSignal, offline]
  rw [State.clearForMemoryTest, cleared]
  exact State.eq_of_fields (by simp [Sparse.empty, JournalUnit.emptied])

/-- The end of a test of a known kind, with its TEST entry (R166). -/
theorem State.endTest_eq {s : State} {kind : TestKind} (h : s.mode.test.kind = kind) (final : TestState) :
    s.endTest final =
      ({ s with mode := { s.mode with test := { s.mode.test with state := final } } } : State).offer
        ⟨.test, if s.mode.test.powerUp then .reset else .test, .none, byteOf kind.code, byteOf final.code, [],
          none⟩ := by
  subst h
  rfl

theorem exec_memoryTestCompletion {s : State} (attends : s.attends = true) (passed : Bool) :
    exec (.memoryTestCompletion passed) s = .next (s.completeMemoryTest passed) :=
  State.takesAfterDue_of_attends attends fun u => u.completeMemoryTest passed

theorem State.memoryTestRuns_iff (s : State) :
    s.memoryTestRuns = true ↔ s.mode.test.kind = .memory ∧ s.mode.test.state = .running := by
  simp [State.memoryTestRuns]

/-- Settles O51: the start of a memory test, and the completion by whether such a test is RUNNING. -/
theorem memoryTestsRun : Obligations.MemoryTestsRun := by
  refine ⟨fun s o offline stoppedA stoppedB => ?_, fun s passed attends => ⟨fun other => ?_, fun memory runs => ?_⟩⟩
  · have served := State.request_taken (r := runTestRequest 1) o (.runTest 1) rfl
      (show (0x04 : Byte) ≠ resetKind by decide) (runTestAnswer_memory offline stoppedA stoppedB)
    have caught : (s.withTestStarted .memory).catchUp =
        { s.catchUp with mode := (s.withTestStarted .memory).mode } := s.catchUp_withMode _
    rw [State.clearForMemoryTest_eq (s := s.withTestStarted .memory) offline, caught] at served
    exact served
  · have idle : ¬ s.memoryTestRuns = true := by
      rw [State.memoryTestRuns_iff]
      rintro ⟨memory, runs⟩
      exact other.elim (absurd memory) (absurd runs)
    rw [exec_memoryTestCompletion attends, State.completeMemoryTest, if_neg idle]
  · rw [exec_memoryTestCompletion attends, State.completeMemoryTest,
      if_pos (s.memoryTestRuns_iff.mpr ⟨memory, runs⟩), State.endTest_eq memory]
    rfl

/-! ## The verdict of a loop test (R169) -/

theorem State.loopTestOver_iff (s : State) :
    s.loopTestOver = true ↔ s.mode.test.kind = .loop ∧ s.mode.testOn = true ∧ s.loopA.state = .stopped ∧
      s.loopB.state = .stopped := by
  simp [State.loopTestOver]

theorem ModeController.testOn_iff (m : ModeController) :
    m.testOn = true ↔ m.test.state = .running ∨ m.test.state = .aborting := by
  simp [ModeController.testOn]

theorem TileResult.faultless_iff (r : TileResult) :
    (r == .pass || r == .notTested) = true ↔ r ≠ .fail ∧ r ≠ .noReply := by
  cases r <;> decide

/-- No slot was found at fault exactly when no result is FAIL or NO_REPLY. -/
theorem faultless_iff (results : Bank 64 TileResult) :
    results.rows.all (fun r => r == .pass || r == .notTested) = true ↔
      ∀ i, results.get i ≠ .fail ∧ results.get i ≠ .noReply := by
  simp only [Bank.rows_eq_map_get, List.all_map, List.all_eq_true, List.mem_finRange, true_imp_iff,
    Function.comp_apply, TileResult.faultless_iff]

/-- The state a loop test ends in when both loops are STOPPED (R169; log entry 11). -/
def TestRecord.loopVerdict (t : TestRecord) : TestState :=
  if t.state = .aborting then .aborted
  else if t.results.rows.all (fun r => r == .pass || r == .notTested) then .passed
  else .failed

theorem State.closeLoopTest_over {s : State} (ended : s.loopTestOver = true) :
    s.closeLoopTest = s.endTest s.mode.test.loopVerdict :=
  if_pos ended

theorem State.closeLoopTest_goesOn {s : State} (goesOn : s.loopA.state ≠ .stopped ∨ s.loopB.state ≠ .stopped) :
    s.closeLoopTest = s := by
  refine if_neg fun ended => ?_
  obtain ⟨-, -, stoppedA, stoppedB⟩ := s.loopTestOver_iff.mp ended
  exact goesOn.elim (absurd stoppedA) (absurd stoppedB)

section Verdict

variable {t : TestRecord}

theorem TestRecord.loopVerdict_aborting (h : t.state = .aborting) : t.loopVerdict = .aborted := if_pos h

theorem TestRecord.loopVerdict_passed (runs : t.state = .running)
    (faultless : ∀ i, t.results.get i ≠ .fail ∧ t.results.get i ≠ .noReply) : t.loopVerdict = .passed := by
  rw [TestRecord.loopVerdict, if_neg (by simp [runs]), if_pos ((faultless_iff _).mpr faultless)]

theorem TestRecord.loopVerdict_failed (runs : t.state = .running)
    (fault : ∃ i, t.results.get i = .fail ∨ t.results.get i = .noReply) : t.loopVerdict = .failed := by
  rw [TestRecord.loopVerdict, if_neg (by simp [runs]), if_neg]
  rw [faultless_iff]
  intro faultless
  obtain ⟨i, found⟩ := fault
  exact found.elim (faultless i).1 (faultless i).2

end Verdict

/-! ## ABORT TEST (R167, R170) -/

/-- Whether an ABORT TEST stops a loop at once: it is TESTING with no frame in transfer (R170). -/
def LoopController.abortsAtOnce (c : LoopController) : Bool :=
  decide (c.state = .testing ∧ c.transfer = none)

theorem State.abortLoop_eq (s : State) (l : Loop) :
    s.abortLoop l =
      { s.withLoop l (if (s.loop l).abortsAtOnce then (s.loop l).stop else s.loop l) with
        composer := if (s.loop l).abortsAtOnce then s.composer.drop l else s.composer } := by
  have asked : ((s.loop l).state = .testing ∧ (s.loop l).transfer.isNone = true) ↔
      (s.loop l).abortsAtOnce = true := by simp [LoopController.abortsAtOnce]
  unfold State.abortLoop
  rw [ite_congr (propext asked) (fun _ => rfl) fun _ => rfl]
  split
  · rfl
  · rw [State.withLoop_loop]

theorem abortTestAnswer_refused {s : State} (idle : s.mode.testOn = false) :
    abortTestAnswer s = s.refuse .noTest :=
  if_neg (by simp [idle])

theorem abortTestAnswer_taken {s : State} (on : s.mode.testOn = true) :
    abortTestAnswer s = { state := s.abortTest, payload := [byteOf s.abortTest.mode.test.state.code] } :=
  if_pos on

theorem State.abortTest_aborting {s : State} (aborting : s.mode.test.state = .aborting) : s.abortTest = s :=
  if_pos aborting

theorem State.abortTest_memory {s : State} (runs : s.mode.test.state = .running) (memory : s.mode.test.kind = .memory) :
    s.abortTest = s.endTest .aborted :=
  (if_neg (by simp [runs])).trans (if_pos memory)

theorem State.endTest_state (s : State) (final : TestState) : (s.endTest final).mode.test.state = final := by
  simp [State.endTest]

/-- A loop test that is ABORTING, with every TESTING loop stopped that has no frame in transfer. -/
def State.abortedLoops (s : State) : State :=
  { s with
    loopA := if s.loopA.abortsAtOnce then s.loopA.stop else s.loopA
    loopB := if s.loopB.abortsAtOnce then s.loopB.stop else s.loopB
    composer :=
      if s.loopB.abortsAtOnce then (if s.loopA.abortsAtOnce then s.composer.drop .a else s.composer).drop .b
      else if s.loopA.abortsAtOnce then s.composer.drop .a else s.composer
    mode := { s.mode with test := { s.mode.test with state := .aborting } } }

theorem State.abortTest_loop {s : State} (runs : s.mode.test.state = .running) (loop : s.mode.test.kind = .loop) :
    s.abortTest = s.abortedLoops.closeLoopTest := by
  let marked : State := { s with mode := { s.mode with test := { s.mode.test with state := .aborting } } }
  have aborts : s.abortTest = ((marked.abortLoop .a).abortLoop .b).closeLoopTest :=
    (if_neg (by simp [runs])).trans (if_neg (by simp [loop]))
  rw [aborts, State.abortLoop_eq, State.abortLoop_eq]
  rfl

/-- Settles O50: a loop test by the states of its loops and its own, ABORT TEST by the test that is on. -/
theorem testsEndAndAbort : Obligations.TestsEndAndAbort := by
  refine ⟨fun s loop on => ⟨State.closeLoopTest_goesOn, fun stoppedA stoppedB => ?_⟩, fun s serves => ?_⟩
  · refine ⟨s.mode.test.loopVerdict, TestRecord.loopVerdict_aborting, TestRecord.loopVerdict_passed,
      TestRecord.loopVerdict_failed, ?_⟩
    have ended : s.loopTestOver = true :=
      s.loopTestOver_iff.mpr ⟨loop, s.mode.testOn_iff.mpr on, stoppedA, stoppedB⟩
    rw [State.closeLoopTest_over ended, State.endTest_eq loop]
    rfl
  · have aborts {u : State} (on : s.mode.testOn = true) (a : s.abortTest = u) :
        exec .abortTest s = .next (u.sendReply 0x85 .ok [byteOf u.mode.test.state.code] false) := by
      subst a
      exact State.request_taken_always (r := abortTestRequest) serves .abortTest rfl rfl
        (show (0x05 : Byte) ≠ resetKind by decide) (abortTestAnswer_taken on)
    refine ⟨fun notRunning notAborting => ?_, fun aborting => ?_, fun runs memory => ?_, fun runs loop => ?_⟩
    · have idle : s.mode.testOn = false := by simp [ModeController.testOn, notRunning, notAborting]
      exact State.request_refused_always (r := abortTestRequest) serves .abortTest rfl rfl (by decide)
        (abortTestAnswer_refused idle)
    · rw [aborts (s.mode.testOn_iff.mpr (.inr aborting)) (State.abortTest_aborting aborting), aborting]
      rfl
    · rw [aborts (s.mode.testOn_iff.mpr (.inl runs)) (State.abortTest_memory runs memory), State.endTest_state,
        State.endTest_eq memory]
      rfl
    · exact aborts (s.mode.testOn_iff.mpr (.inl runs)) (State.abortTest_loop runs loop)

end Sys2Proof.Machine

/-!
PROOFS. The loop test (O49): its start, its patterns and frames, the judgement of its echoes, its frame ends.
-/

namespace Sys2Proof.Machine

/-! ## The start of a loop test and its frames (R168) -/

/-- The four patterns of a loop test: all lit, all dark, the even outputs, the odd outputs. -/
theorem testPattern_flags : ∀ o : Fin 64,
    (testPattern 0).getLsbD o.val = true ∧ (testPattern 1).getLsbD o.val = false ∧
      (testPattern 2).getLsbD o.val = (o.val % 2 == 0) ∧ (testPattern 3).getLsbD o.val = (o.val % 2 == 1) := by
  decide

theorem mapOf_eq_make (tiles : Bank 32 Tile) :
    mapOf tiles = Bank.make fun slot =>
      if (tiles.get slot).enabled then some (tiles.get slot).size else none :=
  Bank.map_eq_make _ _

/-- A loop controller at the start of a loop test: TESTING, its map latched, its first frame start due at once. -/
def LoopController.testBegun (c : LoopController) : LoopController :=
  { c with
    state := .testing
    timer := .counting c.period
    latched := Bank.make fun slot => if (c.tiles.get slot).enabled then some (c.tiles.get slot).size else none
    startPending := true }

theorem State.startLoopTest_eq (s : State) (l : Loop) :
    s.startLoopTest l = s.withLoop l (s.loop l).testBegun := by
  rw [State.startLoopTest, mapOf_eq_make]
  rfl

/-- The slot word that a TEST frame sends next, if a slot remains: the pattern, whatever the slot (R168). -/
def testWord (pattern : Flags) : List (Fin 32) → List Byte
  | [] => []
  | slot :: _ => slotWord slot pattern

theorem State.nextWord_test (s : State) (l : Loop) (slots : List (Fin 32)) :
    s.nextWord l .test slots = testWord (testPattern (s.mode.test.frames l)) slots := by
  cases slots <;> rfl

/-- The characters of a TEST frame's start: its header, and the slot word of its first slot (R108, R168). -/
def testStartLine (intensity : Fin 16) (pattern : Flags) (slots : List (Fin 32)) : List Byte :=
  headerBytes .test intensity ++ testWord pattern slots

/-- A header for a loop that has just started a TEST frame. -/
theorem State.sendHeader_test {s : State} {l : Loop} {intensity : Fin 16} {slots : List (Fin 32)}
    (sends : (s.loop l).transfer = some ⟨.test, intensity, slots⟩) :
    s.sendHeader l =
      s.withLoop l { s.loop l with line := testStartLine intensity (testPattern (s.mode.test.frames l)) slots } := by
  rw [testStartLine, ← State.nextWord_test, State.sendHeader, sends]

theorem State.startTestFrame_eq (s : State) (l : Loop) :
    s.startTestFrame l =
      s.withLoop l
        { (s.loop l).testStart s.intensity with
          line :=
            testStartLine s.intensity (testPattern (s.mode.test.frames l)) (slotsOf (s.loop l).latched) } := by
  have begun : (s.withLoop l ((s.loop l).testStart s.intensity)).loop l = (s.loop l).testStart s.intensity :=
    State.loop_withLoop s l _
  have mode : (s.withLoop l ((s.loop l).testStart s.intensity)).mode = s.mode := by simp
  rw [State.startTestFrame, State.sendHeader_test (by rw [begun]; rfl), begun, mode, State.withLoop_withLoop]

theorem State.startFrame_testing {s : State} {l : Loop} (due : s.frameStartDue l = true)
    (testing : (s.loop l).state = .testing) : s.startFrame l = s.startTestFrame l := by
  simp only [State.startFrame, due, testing, if_true]

/-! ## The judgement of an echo (R168) -/

theorem echoDiffers_iff (sent echo : Flags) (z : TileSize) :
    echoDiffers sent echo (some z) = true ↔ ∃ o, o < z.outputs ∧ sent.getLsbD o ≠ echo.getLsbD o := by
  simp [echoDiffers]

section Judgement

variable {r : TileResult} {w : TileReply} {latched : Option TileSize} {sent : Flags}

/-- Only a tile still NOT_TESTED can be found at fault by its echo. -/
theorem TileResult.afterSlot_judged (judged : r ≠ .notTested) : r.afterSlot (some w) latched sent = r := by
  simp [TileResult.afterSlot, judged]

theorem TileResult.afterSlot_echoes {z : TileSize} (size : w.size = some z) (right : latched = some z)
    (echoes : ∀ o, o < z.outputs → w.sense.getLsbD o = sent.getLsbD o) :
    TileResult.notTested.afterSlot (some w) latched sent = .notTested := by
  have same : echoDiffers sent w.sense (some z) = false := by
    rw [Bool.eq_false_iff, Ne, echoDiffers_iff]
    rintro ⟨o, small, differs⟩
    exact differs (echoes o small).symm
  simp [TileResult.afterSlot, TileReply.rightSize_eq, size, right, same]

theorem TileResult.afterSlot_wrongSize (wrong : w.size = none ∨ w.size ≠ latched) :
    TileResult.notTested.afterSlot (some w) latched sent = .fail := by
  have notRight : w.rightSize latched = false := by
    rw [TileReply.rightSize_eq, decide_eq_false_iff_not]
    rintro ⟨same, present⟩
    exact wrong.elim (fun unsized => present (same.symm.trans unsized)) fun other => other same
  simp [TileResult.afterSlot, notRight]

theorem TileResult.afterSlot_differs {z : TileSize} {o : Nat} (size : latched = some z) (small : o < z.outputs)
    (differs : w.sense.getLsbD o ≠ sent.getLsbD o) :
    TileResult.notTested.afterSlot (some w) latched sent = .fail := by
  have found : echoDiffers sent w.sense latched = true := by
    rw [size, echoDiffers_iff]
    exact ⟨o, small, differs.symm⟩
  simp [TileResult.afterSlot, found]

end Judgement

/-! ## The slot end of a loop test (R111, R168) -/

theorem tileIndex_val (l : Loop) (slot : Fin 32) : (tileIndex l slot).val = loopIndex l * 32 + slot.val := by
  cases l
  · exact (Nat.zero_add _).symm
  · rfl

/-- A loop controller after a slot transfer of a TEST frame: the next slot word goes out with the same pattern, and a
valid reply is recorded. -/
def LoopController.testSlotEnded (c : LoopController) (t : Transfer) (slot : Fin 32) (rest : List (Fin 32))
    (pattern : Flags) (valid : Bool) : LoopController :=
  { c with
    transfer := some { t with remaining := rest }
    line := testWord pattern rest
    thisReply := if valid then c.thisReply.put slot true else c.thisReply }

theorem State.endTransfer_test (s : State) (l : Loop) {t : Transfer} (test : t.kind = .test) (slot : Fin 32)
    (rest : List (Fin 32)) (valid : Bool) :
    s.endTransfer l t slot rest valid =
      s.withLoop l ((s.loop l).testSlotEnded t slot rest (testPattern (s.mode.test.frames l)) valid) := by
  have word : s.nextWord l t.kind rest = testWord (testPattern (s.mode.test.frames l)) rest := by
    rw [test, State.nextWord_test]
  rw [State.endTransfer, word]
  rfl

theorem State.endSlot_testing {s : State} {l : Loop} {t : Transfer} {slot : Fin 32} {rest : List (Fin 32)}
    (sends : (s.loop l).transfer = some t) (remaining : t.remaining = slot :: rest)
    (testing : (s.loop l).state = .testing) (window : List RxChar) :
    s.endSlot l window =
      (s.endTransfer l t slot rest (tileReplyOf window).isSome).testingSlotEnd l slot (tileReplyOf window) := by
  simp only [State.endSlot, sends, remaining, testing]

/-- The result of a slot end is stored; the loop's controller stays as the transfer's end has left it. -/
theorem State.testingSlotEnd_withLoop (s : State) (l : Loop) (c : LoopController) (slot : Fin 32)
    (reply : Option TileReply) :
    (s.withLoop l c).testingSlotEnd l slot reply =
      { s.withLoop l c with
        mode :=
          { s.mode with
            test :=
              { s.mode.test with
                results :=
                  s.mode.test.results.put (tileIndex l slot)
                    ((s.mode.test.results.get (tileIndex l slot)).afterSlot reply (c.latched.get slot)
                      (testPattern (s.mode.test.frames l))) } } } := by
  cases l <;> rfl

/-! ## The frame end of a loop test (R168, R169) -/

/-- The PASS results of a list of slots go to those of them that are still NOT_TESTED. -/
theorem get_passSlots (l : Loop) (slots : List (Fin 32)) (i : Fin 64) : ∀ results : Bank 64 TileResult,
    (slots.foldl (fun b slot => if b.get (tileIndex l slot) = .notTested then b.put (tileIndex l slot) .pass else b)
      results).get i =
      if results.get i = .notTested ∧ ∃ slot ∈ slots, tileIndex l slot = i then .pass else results.get i := by
  induction slots with
  | nil => simp
  | cons slot rest ih =>
    intro results
    rw [List.foldl_cons, ih]
    by_cases own : tileIndex l slot = i
    · subst own
      by_cases untested : results.get (tileIndex l slot) = .notTested <;> simp [untested]
    · have kept : (if results.get (tileIndex l slot) = .notTested then results.put (tileIndex l slot) .pass
          else results).get i = results.get i := by
        split
        · exact Bank.get_put_other _ _ own
        · rfl
      simp [kept, own]

theorem passUntested_get (results : Bank 64 TileResult) (l : Loop) (latched : Bank 32 (Option TileSize))
    (i : Fin 64) :
    (passUntested results l latched).get i =
      if results.get i = .notTested ∧
          ∃ slot : Fin 32, (latched.get slot).isSome = true ∧ loopIndex l * 32 + slot.val = i.val then .pass
      else results.get i := by
  have slots : (∃ slot ∈ slotsOf latched, tileIndex l slot = i) ↔
      ∃ slot : Fin 32, (latched.get slot).isSome = true ∧ loopIndex l * 32 + slot.val = i.val := by
    simp [slotsOf, Fin.ext_iff, tileIndex_val]
  rw [passUntested, get_passSlots]
  exact ite_congr (by rw [slots]) (fun _ => rfl) fun _ => rfl

/-- The results after a TEST frame end: the eighth passes what is untested. -/
def TestRecord.resultsAfter (t : TestRecord) (l : Loop) (latched : Bank 32 (Option TileSize)) :
    Bank 64 TileResult :=
  if t.frames l + 1 = 8 then passUntested t.results l latched else t.results

theorem TestRecord.resultsAfter_get (t : TestRecord) (l : Loop) (latched : Bank 32 (Option TileSize)) (i : Fin 64) :
    (t.resultsAfter l latched).get i =
      if t.frames l + 1 = 8 ∧ t.results.get i = .notTested ∧
          ∃ slot : Fin 32, (latched.get slot).isSome = true ∧ loopIndex l * 32 + slot.val = i.val then .pass
      else t.results.get i := by
  unfold TestRecord.resultsAfter
  split
  · next eighth => simp only [passUntested_get, eighth, true_and]
  · next earlier => simp only [earlier, false_and, if_false]

theorem TestRecord.frameDone_eq (t : TestRecord) (l : Loop) (latched : Bank 32 (Option TileSize)) :
    t.frameDone l latched =
      { t with
        framesA := if l = .a then t.frames l + 1 else t.framesA
        framesB := if l = .b then t.frames l + 1 else t.framesB
        results := t.resultsAfter l latched } := by
  unfold TestRecord.frameDone TestRecord.resultsAfter
  dsimp only
  split <;> cases l <;> rfl

theorem State.endFrame_testing {s : State} {l : Loop} (due : s.frameEndDue l = true)
    (testing : (s.loop l).state = .testing) : s.endFrame l = s.endTestFrame l := by
  simp only [State.endFrame, due, testing, if_true]

section TestFrameEnd

variable (s : State) (l : Loop)

/-- The test record after a TEST frame end of a loop. -/
def State.testAfterFrame : TestRecord :=
  s.mode.test.frameDone l (s.loop l).latched

theorem State.testAfterFrame_frames : (s.testAfterFrame l).frames l = s.mode.test.frames l + 1 := by
  rw [State.testAfterFrame, TestRecord.frameDone_eq]
  cases l <;> rfl

theorem State.testAfterFrame_state : (s.testAfterFrame l).state = s.mode.test.state := by
  rw [State.testAfterFrame, TestRecord.frameDone_eq]

/-- Before the eighth frame end, and with no abort, the loop goes on. -/
theorem State.endTestFrame_goesOn (more : s.mode.test.frames l + 1 ≠ 8) (noAbort : s.mode.test.state ≠ .aborting) :
    s.endTestFrame l =
      { s.withLoop l (s.loop l).testEnd with mode := { s.mode with test := s.testAfterFrame l } } := by
  refine if_neg ?_
  show ¬ ((s.testAfterFrame l).frames l = 8 ∨ (s.testAfterFrame l).state = .aborting)
  rw [State.testAfterFrame_frames, State.testAfterFrame_state]
  exact fun ends => ends.elim more noAbort

/-- At the eighth frame end, or at any in an abort, the loop stops, and the test may end. -/
theorem State.endTestFrame_stops (ends : s.mode.test.frames l + 1 = 8 ∨ s.mode.test.state = .aborting) :
    s.endTestFrame l =
      State.closeLoopTest
        { s.withLoop l (s.loop l).testEnd.stop with
          composer := s.composer.drop l
          mode := { s.mode with test := s.testAfterFrame l } } := by
  have stops : (s.testAfterFrame l).frames l = 8 ∨ (s.testAfterFrame l).state = .aborting := by
    rwa [State.testAfterFrame_frames, State.testAfterFrame_state]
  refine (if_pos stops).trans (congrArg State.closeLoopTest ?_)
  cases l <;> rfl

end TestFrameEnd

/-- Settles O49: the patterns, the start, then a frame of the test at its start, its slot ends and its end. -/
theorem loopTestsRun : Obligations.LoopTestsRun := by
  refine ⟨fun o small => ?_, fun s kind o known busy => ?_, fun s o offline stoppedA stoppedB => ?_,
    fun s l running undue pending idle testing => ?_, fun s l window t slot rest attends testing sends test left => ?_,
    fun s l t attends testing sends done => ?_⟩
  · obtain ⟨lit, dark, even, odd⟩ := testPattern_flags ⟨o, small⟩
    refine ⟨?_, ?_, ?_, ?_⟩ <;> rintro n (rfl | rfl)
    exacts [lit, lit, dark, dark, even, even, odd, odd]
  · exact State.request_refused (r := runTestRequest kind) o (.runTest kind) rfl (by decide)
      (runTestAnswer_refused known busy)
  · intro begun
    have served := State.request_taken (r := runTestRequest 2) o (.runTest 2) rfl
      (show (0x04 : Byte) ≠ resetKind by decide) (runTestAnswer_loop offline stoppedA stoppedB)
    rw [State.startLoopTest_eq, State.startLoopTest_eq] at served
    exact served
  · intro c slots
    have due : s.frameStartDue l = true := (s.frameStartDue_iff l).mpr ⟨pending, idle, .inr testing⟩
    rw [exec_frameStart running undue, State.startFrame_testing due testing, State.startTestFrame_eq]
    rfl
  · intro i old sent ended
    have index : tileIndex l slot = i := Fin.ext (tileIndex_val l slot)
    refine ⟨old.afterSlot (tileReplyOf window) ((s.loop l).latched.get slot) sent, ?_, fun none => ?_,
      fun w reply => ⟨fun judged => ?_, fun untested => ⟨?_, ?_, ?_⟩⟩⟩
    · rw [exec_slotEnd attends, State.endSlot_testing sends left testing, State.endTransfer_test s l test,
        State.testingSlotEnd_withLoop, index]
      rfl
    · rw [none]
      rfl
    · rw [reply, TileResult.afterSlot_judged judged]
    · rintro ⟨z, size, right, echoes⟩
      rw [reply, untested, TileResult.afterSlot_echoes size right echoes]
    · intro wrong
      rw [reply, untested, TileResult.afterSlot_wrongSize wrong]
    · intro z o size small differs
      rw [reply, untested, TileResult.afterSlot_differs size small differs]
  · intro c n ended
    have due : s.frameEndDue l = true := (s.frameEndDue_iff l).mpr ⟨t, sends, done⟩
    refine ⟨s.mode.test.resultsAfter l c.latched, s.mode.test.resultsAfter_get l c.latched, ?_⟩
    intro test
    have counted : s.testAfterFrame l = test := s.mode.test.frameDone_eq l c.latched
    rw [exec_frameEnd attends, State.endFrame_testing due testing, ← counted]
    refine ⟨fun more noAbort => ?_, fun ends => ?_⟩
    · rw [State.endTestFrame_goesOn s l more noAbort]
      rfl
    · rw [State.endTestFrame_stops s l ends]
      rfl

end Sys2Proof.Machine

/-!
PROOFS. The requests on the link: a body and the command that it spells come to the same request (O4), the gate holds
off requests during a test (O9) and refuses a payload of no allowed length (O10).
-/

namespace Sys2Proof.Machine

/-! ## The body of a command, and its request (R176, Table 11-3) -/

/-- The fields of a DEFINE POINT are read back (Table 11-7). -/
theorem defineArgsOf_bytes (d : DefineArgs) :
    defineArgsOf
        (halfBytes d.point.toNat ++ [d.kind, d.outstation, d.sect, d.priority, d.ringBack, d.lampCount] ++
          d.lamps.flatMap fun n => halfBytes n.toNat) =
      some d := by
  show (halvesOf (d.lamps.flatMap fun n => halfBytes n.toNat)).map _ = some d
  rw [halvesOf_halfBytes, Option.map_some, halfOf_bytes]

/-- A command with a body is taken as the request that its body carries. -/
theorem requestOf_requestBody {c : Instr} {body : List Byte} (h : requestBody c = some body) :
    ∃ kind payload r, body = kind :: payload ∧ requestOf kind payload = some r ∧ ∀ s, exec c s = s.request c r := by
  cases c with
  | softwareReset | memoryTestCompletion | deskSample | tick | prescaleExpiry | phaseToggle | passStart |
      passCompletion | frameTimerExpiry | frameStart | slotEnd | frameEnd | hostTimerExpiry | linkCountdownExpiry |
      outstationCountdownExpiry | characterReceived | gapTimerExpiry | serviceBegin | hardwareResetAssert |
      hardwareResetNegation =>
    cases h
  | definePoint d =>
    cases h
    refine ⟨_, _, definePointRequest d, rfl, ?_, fun _ => rfl⟩
    exact congrArg (fun args => some ((args.map definePointRequest).getD (misSizedRequest 0x10 false)))
      (defineArgsOf_bytes d)
  | updatePoints us =>
    cases h
    refine ⟨_, _, _, rfl, ?_, fun _ => rfl⟩
    simp [requestOf, readerOf]
  | setOutstationPeriods first ps =>
    cases h
    refine ⟨_, _, _, rfl, ?_, fun _ => rfl⟩
    simp [requestOf, readerOf, setOutstationPeriodsOf]
  | deletePoint | readPoint | forcePoint | releasePoint | inhibitPoint | enablePoint | acknowledge |
      readAnnunciation | setLoopTiming | readLampFaults | setCadence | setTime =>
    cases h
    refine ⟨_, _, _, rfl, ?_, fun _ => rfl⟩
    simp [requestOf, readerOf, payload2, payload3, payload4, payload6, halfBytes, wordBytes]
  | _ =>
    cases h
    exact ⟨_, _, _, rfl, rfl, fun _ => rfl⟩

theorem State.serveBody_of_request {kind : Byte} {payload : List Byte} {r : Request}
    (h : requestOf kind payload = some r) (s : State) : s.serveBody (kind :: payload) = s.serve r := by
  simp only [State.serveBody, h]

/-- To a serving part a request command is the service of its body. -/
theorem exec_of_serves {c : Instr} {body : List Byte} {s : State} (h : requestBody c = some body)
    (serves : s.serves = true) : exec c s = .next (s.serveBody body) := by
  obtain ⟨kind, payload, r, rfl, carried, taken⟩ := requestOf_requestBody h
  rw [taken, State.request_of_serves serves, State.serveBody_of_request carried]

/-- Settles O4. -/
theorem queuedBodyActsAsItsCommand : Obligations.QueuedBodyActsAsItsCommand :=
  fun _ _ _ spelled serves => exec_of_serves spelled serves

/-! ## The kind of the request that a body carries (Table 11-3) -/

/-- A reader that gives requests with a property only. -/
def Reads (P : Request → Prop) (f : List Byte → Option Request) : Prop :=
  ∀ payload r, f payload = some r → P r

section Reads

variable {P : Request → Prop}

theorem reads_payload0 {r : Request} (h : P r) : Reads P (payload0 r)
  | [], _, e => Option.some.inj e ▸ h

theorem reads_payload1 {f : Byte → Request} (h : ∀ a, P (f a)) : Reads P (payload1 f)
  | [a], _, e => Option.some.inj e ▸ h a

theorem reads_payload2 {f : Byte → Byte → Request} (h : ∀ a b, P (f a b)) : Reads P (payload2 f)
  | [a, b], _, e => Option.some.inj e ▸ h a b

theorem reads_payload3 {f : Byte → Byte → Byte → Request} (h : ∀ a b c, P (f a b c)) : Reads P (payload3 f)
  | [a, b, c], _, e => Option.some.inj e ▸ h a b c

theorem reads_payload4 {f : Byte → Byte → Byte → Byte → Request} (h : ∀ a b c d, P (f a b c d)) :
    Reads P (payload4 f)
  | [a, b, c, d], _, e => Option.some.inj e ▸ h a b c d

theorem reads_payload6 {f : Byte → Byte → Byte → Byte → Byte → Byte → Request}
    (h : ∀ a b c d e g, P (f a b c d e g)) : Reads P (payload6 f)
  | [a, b, c, d, e, g], _, eq => Option.some.inj eq ▸ h a b c d e g

theorem reads_map {α : Type} {g : List Byte → Option α} {f : α → Request} (h : ∀ a, P (f a)) :
    Reads P fun p => (g p).map f := by
  intro payload r e
  obtain ⟨a, -, rfl⟩ := Option.map_eq_some_iff.mp e
  exact h a

theorem reads_total {f : List Byte → Request} (h : ∀ p, P (f p)) : Reads P fun p => some (f p) :=
  fun payload _ e => Option.some.inj e ▸ h payload

theorem reads_setOutstationPeriodsOf (h : ∀ first ps, P (setOutstationPeriodsRequest first ps)) :
    Reads P setOutstationPeriodsOf
  | first :: rest, r, e => reads_map (h first) rest r e

end Reads

/-- A request that stands in Table 11-3 under a kind: its kind byte, and whether it passes during a test. -/
def Request.Under (kind : Byte) (r : Request) : Prop :=
  r.kind = kind ∧ r.duringTest = passesDuringTest kind

theorem setModeRequest_under (code : Byte) : (setModeRequest code).Under 0x02 := by
  unfold setModeRequest
  split
  · exact ⟨rfl, rfl⟩
  · split <;> exact ⟨rfl, rfl⟩

/-- The reader of a kind gives requests of that kind only. -/
theorem readerOf_reads {kind : Byte} {f : List Byte → Option Request} (h : readerOf kind = some f) :
    Reads (Request.Under kind) f := by
  unfold readerOf at h
  generalize number : kind.toNat = n at h
  obtain rfl : kind = BitVec.ofNat 8 n := by rw [← number, BitVec.ofNat_toNat, BitVec.setWidth_eq]
  split at h <;> cases h
  · exact reads_payload0 ⟨rfl, rfl⟩
  · exact reads_payload1 setModeRequest_under
  · exact reads_payload0 ⟨rfl, rfl⟩
  · exact reads_payload1 fun _ => ⟨rfl, rfl⟩
  · exact reads_payload0 ⟨rfl, rfl⟩
  · exact reads_payload0 ⟨rfl, rfl⟩
  · exact reads_map fun _ => ⟨rfl, rfl⟩
  · exact reads_payload2 fun _ _ => ⟨rfl, rfl⟩
  · exact reads_payload2 fun _ _ => ⟨rfl, rfl⟩
  · exact reads_map fun _ => ⟨rfl, rfl⟩
  · exact reads_payload3 fun _ _ _ => ⟨rfl, rfl⟩
  · exact reads_payload2 fun _ _ => ⟨rfl, rfl⟩
  · exact reads_payload2 fun _ _ => ⟨rfl, rfl⟩
  · exact reads_payload2 fun _ _ => ⟨rfl, rfl⟩
  · exact reads_payload3 fun _ _ _ => ⟨rfl, rfl⟩
  · exact reads_payload0 ⟨rfl, rfl⟩
  · exact reads_payload3 fun _ _ _ => ⟨rfl, rfl⟩
  · exact reads_payload1 fun _ => ⟨rfl, rfl⟩
  · exact reads_payload2 fun _ _ => ⟨rfl, rfl⟩
  · exact reads_payload4 fun _ _ _ _ => ⟨rfl, rfl⟩
  · exact reads_payload3 fun _ _ _ => ⟨rfl, rfl⟩
  · exact reads_payload1 fun _ => ⟨rfl, rfl⟩
  · exact reads_payload1 fun _ => ⟨rfl, rfl⟩
  · exact reads_payload1 fun _ => ⟨rfl, rfl⟩
  · exact reads_payload2 fun _ _ => ⟨rfl, rfl⟩
  · exact reads_payload6 fun _ _ _ _ _ _ => ⟨rfl, rfl⟩
  · exact reads_payload4 fun _ _ _ _ => ⟨rfl, rfl⟩
  · exact reads_payload2 fun _ _ => ⟨rfl, rfl⟩
  · exact reads_setOutstationPeriodsOf fun _ _ => ⟨rfl, rfl⟩
  · exact reads_total fun _ => ⟨rfl, rfl⟩
  · exact reads_payload2 fun _ _ => ⟨rfl, rfl⟩
  · exact reads_payload1 fun _ => ⟨rfl, rfl⟩
  · exact reads_total fun _ => ⟨rfl, rfl⟩

/-- Every body of a known kind carries a request of that kind, be its payload of an allowed length or not. -/
theorem requestOf_known_kind {kind : Byte} (known : readerOf kind ≠ none) (payload : List Byte) :
    ∃ r, requestOf kind payload = some r ∧ r.Under kind := by
  obtain ⟨f, reader⟩ := Option.ne_none_iff_exists'.mp known
  cases read : f payload with
  | some r => exact ⟨r, by simp [requestOf, reader, read], readerOf_reads reader payload r read⟩
  | none => exact ⟨misSizedRequest kind (passesDuringTest kind), by simp [requestOf, reader, read], rfl, rfl⟩

theorem readerOf_of_requestOf {kind : Byte} {payload : List Byte} {r : Request}
    (h : requestOf kind payload = some r) : readerOf kind ≠ none := by
  rintro unknown
  simp [requestOf, unknown] at h

/-! ## Requests that a test holds off (R179) -/

theorem State.serveBody_busy {s : State} {kind : Byte} (known : readerOf kind ≠ none)
    (heldOff : passesDuringTest kind = false) (on : s.mode.testOn = true) (payload : List Byte) :
    s.serveBody (kind :: payload) = s.sendReply (kind + 0x80) .busy [] false := by
  obtain ⟨r, carried, rfl, test⟩ := requestOf_known_kind known payload
  rw [State.serveBody_of_request carried, State.serve, State.gate_busy on (test.trans heldOff),
    Answer.reply_refused s .busy r.kind (by decide)]

/-- Settles O9: every request of the kind is held off before its payload is looked at. -/
theorem testsHoldOffRequests : Obligations.TestsHoldOffRequests := by
  intro kind payload s status reset abort results journal on
  have heldOff : passesDuringTest kind = false :=
    decide_eq_false fun passes => passes.elim status (·.elim reset (·.elim abort (·.elim results journal)))
  have busy (known : readerOf kind ≠ none) := State.serveBody_busy known heldOff (s.mode.testOn_iff.mpr on) payload
  refine ⟨busy, fun c spelled serves => ?_⟩
  obtain ⟨_, _, r, same, carried, -⟩ := requestOf_requestBody spelled
  cases same
  rw [exec_of_serves spelled serves, busy (readerOf_of_requestOf carried)]

/-! ## Payloads of no allowed length (R179) -/

/-- A request of no allowed length that a test does not hold off is answered FORMAT. -/
theorem State.serve_format {s : State} {r : Request} (wrong : r.sized = false)
    (passes : s.mode.testOn = true → r.duringTest = true) :
    s.serve r = s.sendReply (r.kind + 0x80) .format [] false := by
  have gate : s.gate r = s.refuse .format := by
    cases on : s.mode.testOn <;> simp [State.gate, wrong, on, passes]
  rw [State.serve, gate, Answer.reply_refused s .format r.kind (by decide)]

theorem State.serveBody_format {s : State} {kind : Byte} {payload : List Byte}
    {reader : List Byte → Option Request} (known : readerOf kind = some reader) (wrong : reader payload = none)
    (passes : s.mode.testOn = true → passesDuringTest kind = true) :
    s.serveBody (kind :: payload) = s.sendReply (kind + 0x80) .format [] false := by
  have carried : requestOf kind payload = some (misSizedRequest kind (passesDuringTest kind)) := by
    simp [requestOf, known, wrong]
  rw [State.serveBody_of_request carried, State.serve_format rfl passes]
  rfl

theorem payload0_none {r : Request} : ∀ {payload : List Byte}, payload ≠ [] → payload0 r payload = none
  | [], h => absurd rfl h
  | _ :: _, _ => rfl

theorem payload1_none {f : Byte → Request} : ∀ {payload : List Byte}, payload.length ≠ 1 → payload1 f payload = none
  | [], _ => rfl
  | [_], h => absurd rfl h
  | _ :: _ :: _, _ => rfl

theorem not_within_of_nil_or_longer {α : Type} {l : List α} {n : Nat} (h : l = [] ∨ n < l.length) :
    ¬ (1 ≤ l.length ∧ l.length ≤ n) := by
  rintro ⟨one, most⟩
  rcases h with rfl | longer
  · simp at one
  · omega

/-- A request command of no allowed length, to an open part. -/
theorem State.request_format {s : State} (o : s.open = true) (c : Instr) {r : Request} (wrong : r.sized = false) :
    s.request c r = .next (s.sendReply (r.kind + 0x80) .format [] false) := by
  have noTest : ¬ s.mode.testOn = true := Bool.eq_false_iff.mp (State.testOn_of_open o)
  rw [State.request_of_serves (State.serves_of_open o), State.serve_format wrong (absurd · noTest)]

/-- Settles O10: the gate looks at the length before the owning block does. -/
theorem wrongLengthsAreRefused : Obligations.WrongLengthsAreRefused := by
  refine ⟨fun s payload => ⟨fun bytes => ⟨?_, ?_, ?_, ?_⟩, fun wrong => ?_⟩, fun s o =>
    ⟨fun d wrong => ?_, fun us wrong => ?_, fun first ps wrong => ?_, fun os wrong => ?_, fun vs wrong => ?_,
      fun kind payload reader known wrong => ?_⟩⟩
  · exact State.serveBody_format (kind := 0x01) rfl (payload0_none bytes) fun _ => rfl
  · exact State.serveBody_format (kind := 0x03) rfl (payload0_none bytes) fun _ => rfl
  · exact State.serveBody_format (kind := 0x05) rfl (payload0_none bytes) fun _ => rfl
  · exact State.serveBody_format (kind := 0x06) rfl (payload0_none bytes) fun _ => rfl
  · exact State.serveBody_format (kind := 0x50) rfl (payload1_none wrong) fun _ => rfl
  · refine State.request_format o (.definePoint d) (r := definePointRequest d) (decide_eq_false ?_)
    rintro ⟨one, most, agrees⟩
    rcases wrong with zero | more | differs
    · simp [zero] at one
    · omega
    · exact differs agrees
  · refine State.request_format o (.updatePoints us) (r := updatePointsRequest us) (decide_eq_false ?_)
    exact not_within_of_nil_or_longer wrong
  · refine State.request_format o (.setOutstationPeriods first ps) (r := setOutstationPeriodsRequest first ps)
      (decide_eq_false ?_)
    exact not_within_of_nil_or_longer wrong
  · refine State.request_format o (.siteHeartbeat os) (r := siteHeartbeatRequest os) (decide_eq_false ?_)
    exact not_within_of_nil_or_longer wrong
  · exact State.request_format o (.setJournalSelection vs) (r := setJournalSelectionRequest vs)
      (decide_eq_false wrong)
  · exact State.serveBody_format known wrong (absurd · (Bool.eq_false_iff.mp (State.testOn_of_open o)))

end Sys2Proof.Machine

/-!
PROOFS. The request queue (O7) and the reply, from its frame to the levels on the line (O8).
-/

namespace Sys2Proof.Machine

/-! ## The queue (R178) -/

theorem LinkInterface.offerItem_of_room {l : LinkInterface} (room : l.queue.length < 4) (item : QueueItem) :
    l.offerItem item = { l with queue := l.queue ++ [item] } :=
  if_pos room

theorem LinkInterface.offerItem_of_full {l : LinkInterface} (full : 4 ≤ l.queue.length) (item : QueueItem) :
    l.offerItem item = { l with queueLost := true } :=
  if_neg (Nat.not_lt.mpr full)

/-- An offer leaves the receiver and the transmitter. -/
theorem LinkInterface.offerItem_frame (l : LinkInterface) (item : QueueItem) :
    (l.offerItem item).receiver = l.receiver ∧ (l.offerItem item).gap = l.gap ∧
      (l.offerItem item).reply = l.reply := by
  unfold LinkInterface.offerItem
  split <;> exact ⟨rfl, rfl, rfl⟩

/-! ## The service of the head item (R179) -/

theorem State.txdIdle_iff (s : State) : s.txdIdle = true ↔ s.link.reply = none :=
  Option.isNone_iff_eq_none

theorem State.linkIdle_iff (s : State) : s.linkIdle = true ↔ s.link.reply = none ∧ s.link.queue = [] := by
  rw [State.linkIdle, Bool.and_eq_true, State.txdIdle_iff, List.isEmpty_iff]

/-- No service is due without an item, nor while a reply is being sent. -/
theorem State.serviceDue_eq_false {s : State} (h : s.link.queue = [] ∨ s.link.reply ≠ none) :
    s.serviceDue = false := by
  rw [State.serviceDue, Bool.and_eq_false_iff]
  rcases h with empty | sends
  · exact .inr (by rw [empty]; rfl)
  · exact .inl (Bool.eq_false_iff.mpr fun idle => sends (s.txdIdle_iff.mp idle))

theorem State.serveBody_unknown {kind : Byte} (unknown : readerOf kind = none) (s : State) (payload : List Byte) :
    s.serveBody (kind :: payload) = s.sendReply (kind + 0x80) .unknown [] false := by
  have noRequest : requestOf kind payload = none := by rw [requestOf, unknown, Option.map_none]
  simp only [State.serveBody, noRequest]
  exact Answer.reply_refused s .unknown kind (by decide)

/-- Settles O7: the queue, then a service that is not due, one that is due, and a request that must wait. -/
theorem queueIsServedFromItsHead : Obligations.QueueIsServedFromItsHead := by
  refine ⟨fun l item => ⟨fun room => LinkInterface.offerItem_of_room room item,
    fun full => LinkInterface.offerItem_of_full full.ge item⟩, fun s attends => ?_⟩
  rw [exec_serviceBegin attends]
  refine ⟨fun empty => ?_, fun sends => ?_, ?_, fun c body spelled busy => ?_⟩
  · rw [State.beginService_undue (State.serviceDue_eq_false (.inl empty))]
  · rw [State.beginService_undue (State.serviceDue_eq_false (.inr sends))]
  · intro item rest idle queue u
    rw [State.beginService_of_head (s.txdIdle_iff.mpr idle) queue]
    refine ⟨?_, ?_, ?_, ?_⟩
    · exact fun reject => by rw [reject]; rfl
    · exact fun reject => by rw [reject]; rfl
    · exact fun body request => by rw [request]; rfl
    · rintro kind payload rfl unknown
      exact congrArg Host.Outcome.next (State.serveBody_unknown unknown u payload)
  · obtain ⟨_, _, r, -, -, taken⟩ := requestOf_requestBody spelled
    have waits : s.linkIdle = false :=
      Bool.eq_false_iff.mpr fun idle => (s.linkIdle_iff.mp idle).elim fun free empty => busy.elim (· free) (· empty)
    rw [taken, State.request_waits attends waits spelled]

/-! ## Two bytes of a field (R176) -/

theorem halfBytes_length (n : Nat) : (halfBytes n).length = 2 := rfl

/-- A number of two bytes is read back from them. -/
theorem byteOf_toNat_pair {n : Nat} (h : n < 65536) : (byteOf (n / 256)).toNat * 256 + (byteOf n).toNat = n := by
  simp only [byteOf, BitVec.toNat_ofNat]
  omega

/-- The bytes of a field are its two halves, most significant first. -/
theorem halfBytes_eq_iff (h : Half) (hi lo : Byte) : halfBytes h.toNat = [hi, lo] ↔ h = hi ++ lo := by
  constructor
  · intro bytes
    obtain ⟨rfl, rfl⟩ : byteOf (h.toNat / 256) = hi ∧ byteOf h.toNat = lo := by simpa [halfBytes] using bytes
    exact (halfOf_bytes h).symm
  · rintro rfl
    have value : (hi ++ lo).toNat = hi.toNat * 256 + lo.toNat := by
      rw [BitVec.toNat_append, ← Nat.shiftLeft_add_eq_or_of_lt lo.isLt, Nat.shiftLeft_eq]
    have high : byteOf ((hi ++ lo).toNat / 256) = hi := by
      apply BitVec.eq_of_toNat_eq
      simp only [byteOf, BitVec.toNat_ofNat]
      omega
    have low : byteOf (hi ++ lo).toNat = lo := by
      apply BitVec.eq_of_toNat_eq
      simp only [byteOf, BitVec.toNat_ofNat]
      omega
    rw [halfBytes, high, low]

/-! ## The reply and its frame (R176, R180) -/

/-- The flags of a reply: QUEUE_LOST, ATTN, and zeros. -/
theorem replyFlags_bits (queueLost attn : Bool) :
    (replyFlags queueLost attn).getLsbD 0 = queueLost ∧ (replyFlags queueLost attn).getLsbD 1 = attn ∧
      ∀ i, 2 ≤ i → (replyFlags queueLost attn).getLsbD i = false := by
  refine ⟨?_, ?_, fun i above => ?_⟩
  · revert queueLost attn; decide
  · revert queueLost attn; decide
  · by_cases inByte : i < 8
    · revert queueLost attn i; decide
    · exact BitVec.getLsbD_of_ge _ _ (Nat.le_of_not_lt inByte)

theorem frameOf_eq (body : List Byte) :
    frameOf body =
      [0xA5, byteOf (body.length / 256), byteOf body.length] ++ body ++
        halfBytes (crc16 (halfBytes body.length ++ body)).toNat := rfl

theorem lineBits_cons (b : Byte) (rest : List Byte) :
    lineBits (b :: rest) =
      [false, b.getLsbD 0, b.getLsbD 1, b.getLsbD 2, b.getLsbD 3, b.getLsbD 4, b.getLsbD 5, b.getLsbD 6, b.getLsbD 7,
        true] ++ lineBits rest := rfl

/-- A transmission that begins has every level on the line still to send. -/
theorem Reply.ofFrame_eq (frame : List Byte) (ofReset : Bool) :
    Reply.ofFrame frame ofReset = ⟨frame, ofReset, 1000 * (lineBits frame).length⟩ := by
  rw [← Reply.ofFrame_left frame ofReset]
  rfl

theorem State.sendReply_eq (s : State) (kind : Byte) (status : Status) (payload : List Byte) (ofReset : Bool) :
    s.sendReply kind status payload ofReset =
      let frame := frameOf (kind :: status.code :: replyFlags s.link.queueLost s.journal.attn :: payload)
      { s with link :=
        { s.link with queueLost := false, reply := some ⟨frame, ofReset, 1000 * (lineBits frame).length⟩ } } := by
  simp only [State.sendReply, Reply.ofFrame_eq]

/-- Settles O8. -/
theorem replyIsOneFrameWithItsFlags : Obligations.ReplyIsOneFrameWithItsFlags := by
  refine ⟨fun s kind status payload ofReset => ?_, ⟨rfl, lineBits_cons⟩, fun testAtStart supvAuto =>
    ⟨rfl, rfl, rfl, rfl⟩, State.txdIdle_iff, fun body fits => ?_⟩
  · obtain ⟨lost, attn, others⟩ := replyFlags_bits s.link.queueLost s.journal.attn
    exact ⟨_, lost, attn, others, s.sendReply_eq kind status payload ofReset⟩
  · have check := halfOf_bytes (crc16 (halfBytes body.length ++ body))
    refine ⟨_, _, _, _, frameOf_eq body, byteOf_toNat_pair (by omega), check, ?_⟩
    simp [frameOf_eq, halfBytes_length]

end Sys2Proof.Machine

/-!
PROOFS. The receiver: each row of Table 11-2 (O6), and a whole good frame taken character by character (O5).
-/

namespace Sys2Proof.Machine

/-! ## The rows of Table 11-2 (R177) -/

/-- The receiver in the midst of a frame: its state, what it has stored, the gap timer just loaded. -/
def State.inFrame (s : State) (receiver : ReceiverState) (buffer : List Byte) : State :=
  { s with link := { s.link with receiver := receiver, buffer := buffer, gap := .counting 100 } }

section Rows

variable {s : State} {c : RxChar}

/-- A start byte begins a frame. -/
theorem State.receive_start (hunts : s.link.receiver = .hunt) (ok : c.stopOk = true) (start : c.byte = 0xA5) :
    s.receive c = s.inFrame .length [] := by
  simp only [State.receive, hunts]
  exact if_pos ⟨ok, start⟩

/-- In HUNT any other character is dropped. -/
theorem State.receive_dropped (hunts : s.link.receiver = .hunt) (other : c.stopOk = false ∨ c.byte ≠ 0xA5) :
    s.receive c = s := by
  simp only [State.receive, hunts]
  refine if_neg fun ⟨ok, start⟩ => ?_
  rcases other with framing | differs
  · rw [framing] at ok; cases ok
  · exact differs start

/-- A framing error within a frame abandons it. -/
theorem State.receive_framingError (inFrame : s.link.receiver ≠ .hunt) (framing : c.stopOk = false) :
    s.receive c = { s with link := s.link.hunting } := by
  cases receiver : s.link.receiver with
  | hunt => exact absurd receiver inFrame
  | length | body | check => simp only [State.receive, receiver, framing, Bool.false_eq_true, if_false]

/-- The first length byte. -/
theorem State.receive_lengthHigh (inLength : s.link.receiver = .length) (empty : s.link.buffer = [])
    (ok : c.stopOk = true) : s.receive c = s.inFrame .length [c.byte] := by
  simp only [State.receive, inLength, ok, if_true, LinkInterface.takeLength, LinkInterface.store, empty]
  rfl

/-- The second length byte of a length that a body can have. -/
theorem State.receive_lengthLow {hi : Byte} (inLength : s.link.receiver = .length) (one : s.link.buffer = [hi])
    (ok : c.stopOk = true) (least : 1 ≤ hi.toNat * 256 + c.byte.toNat)
    (most : hi.toNat * 256 + c.byte.toNat ≤ 1024) :
    s.receive c = s.inFrame .body [hi, c.byte] := by
  have allowed : s.link.takeLength c.byte = s.link.store c.byte .body := by
    simp only [LinkInterface.takeLength, one]
    exact if_pos ⟨least, most⟩
  simp only [State.receive, inLength, ok, if_true, allowed, LinkInterface.store, one]
  rfl

/-- The second length byte of any other length draws a reject. -/
theorem State.receive_lengthRefused {hi : Byte} (inLength : s.link.receiver = .length) (one : s.link.buffer = [hi])
    (ok : c.stopOk = true)
    (out : hi.toNat * 256 + c.byte.toNat = 0 ∨ 1024 < hi.toNat * 256 + c.byte.toNat) :
    s.receive c = { s with link := s.link.hunting.offerItem .rejectLength } := by
  have refused : s.link.takeLength c.byte = s.link.hunting.offerItem .rejectLength := by
    simp only [LinkInterface.takeLength, one]
    exact if_neg (by omega)
  simp only [State.receive, inLength, ok, if_true, refused]

/-- A body byte; the last one brings the receiver to CHECK. -/
theorem State.receive_body {hi lo : Byte} {rest : List Byte} (inBody : s.link.receiver = .body)
    (stored : s.link.buffer = hi :: lo :: rest) (ok : c.stopOk = true)
    (more : rest.length < hi.toNat * 256 + lo.toNat) :
    s.receive c =
      s.inFrame (if rest.length + 1 = hi.toNat * 256 + lo.toNat then .check else .body)
        (s.link.buffer ++ [c.byte]) := by
  have last : lengthField s.link.buffer + 2 ≤ s.link.buffer.length + 1 ↔
      rest.length + 1 = hi.toNat * 256 + lo.toNat := by
    rw [stored]
    show hi.toNat * 256 + lo.toNat + 2 ≤ rest.length + 1 + 1 + 1 ↔ _
    omega
  simp only [State.receive, inBody, ok, if_true, LinkInterface.takeBody, last]
  rfl

/-- The first check byte. -/
theorem State.receive_checkHigh {hi lo : Byte} {body : List Byte} (inCheck : s.link.receiver = .check)
    (whole : body.length = hi.toNat * 256 + lo.toNat) (ok : c.stopOk = true)
    (stored : s.link.buffer = hi :: lo :: body) :
    s.receive c = s.inFrame .check (s.link.buffer ++ [c.byte]) := by
  have first : s.link.buffer.length ≤ lengthField s.link.buffer + 2 := by
    rw [stored]
    show body.length + 1 + 1 ≤ hi.toNat * 256 + lo.toNat + 2
    omega
  simp only [State.receive, inCheck, ok, if_true, first]
  rfl

/-- The second check byte: the frame is good exactly when the two are its CRC-16 (R176). -/
theorem State.receive_checkLow {hi lo first : Byte} {body : List Byte} (inCheck : s.link.receiver = .check)
    (whole : body.length = hi.toNat * 256 + lo.toNat) (ok : c.stopOk = true)
    (stored : s.link.buffer = hi :: lo :: body ++ [first]) :
    s.receive c =
      if crc16 (hi :: lo :: body) = first ++ c.byte then
        { s.goodFrame with link := s.link.hunting.offerItem (.request body) }
      else { s with link := s.link.hunting.offerItem .rejectCheck } := by
  have field : lengthField s.link.buffer + 2 = (hi :: lo :: body).length := by
    rw [stored]
    show hi.toNat * 256 + lo.toNat + 2 = body.length + 1 + 1
    omega
  have second : ¬ s.link.buffer.length ≤ lengthField s.link.buffer + 2 := by
    rw [field, stored, List.length_append]
    exact Nat.not_succ_le_self _
  have counted : s.link.buffer.take (lengthField s.link.buffer + 2) = hi :: lo :: body := by
    rw [field, stored, List.take_left]
  have check : s.link.buffer.drop (lengthField s.link.buffer + 2) = [first] := by
    rw [field, stored, List.drop_left]
  have link : s.goodFrame.link = s.link := by simp
  simp only [State.receive, inCheck, ok, if_true, second, if_false, State.judgeFrame, counted, check, link,
    List.cons_append, List.nil_append, halfBytes_eq_iff]
  rfl

end Rows

theorem exec_characterReceived {s : State} (attends : s.attends = true) (c : RxChar) :
    exec (.characterReceived c) s = .next (s.receive c) :=
  State.takesAfterDue_of_attends attends (State.receive c)

theorem exec_gapTimerExpiry {s : State} (takes : s.takesExpiries = true) :
    exec .gapTimerExpiry s = .next s.expireGap :=
  State.takesAfterFollowUps_of_takesExpiries takes State.expireGap

theorem State.gapDue_iff (s : State) : s.gapDue = true ↔ s.link.gap = .expired :=
  decide_eq_true_iff

/-- Settles O6: the gap timer's expiry, then the rows of Table 11-2 in their order. -/
theorem receiverFollowsItsTable : Obligations.ReceiverFollowsItsTable := by
  refine ⟨fun s takes => ?_, fun s c attends => ⟨exec_characterReceived attends c, ?_⟩⟩
  · rw [exec_gapTimerExpiry takes]
    refine ⟨fun runs => ?_, fun expired => ?_⟩
    · rw [State.expireGap_undue (Bool.eq_false_iff.mpr fun due => runs (s.gapDue_iff.mp due))]
    · rw [State.expireGap, if_pos (s.gapDue_iff.mpr expired)]
  · refine ⟨State.receive_start, State.receive_dropped, State.receive_framingError, State.receive_lengthHigh,
      fun hi => State.receive_lengthLow, fun hi => State.receive_lengthRefused,
      fun hi lo rest => State.receive_body, fun hi lo body inCheck whole ok =>
        ⟨State.receive_checkHigh inCheck whole ok, fun first stored => ?_⟩⟩
    rw [State.receive_checkLow inCheck whole ok stored]
    exact ⟨fun good => if_pos good, fun bad => if_neg bad⟩

/-! ## A whole frame (R176, R177) -/

theorem State.catchUp_withInterface (s : State) (l : LinkInterface) :
    ({ s with link := l } : State).catchUp = { s.catchUp with link := l } := by
  cases pass : s.composer.pass with
  | none => rw [State.catchUp_idle pass, State.catchUp_idle (s := { s with link := l }) pass]
  | some p =>
    rw [State.catchUp_composing pass, State.catchUp_composing (s := { s with link := l }) pass]
    rfl

/-- What a good frame does to the supervision of the link does not hang on the Link Interface. -/
theorem State.goodFrame_withInterface (s : State) (l : LinkInterface) :
    ({ s with link := l } : State).goodFrame = { s.goodFrame with link := l } := by
  cases state : s.supervision.link.state with
  | healthy =>
    rw [State.goodFrame_healthy state, State.goodFrame_healthy (s := { s with link := l }) state]
    rfl
  | lost =>
    rw [State.goodFrame_lost state, State.goodFrame_lost (s := { s with link := l }) state,
      State.offerLink_withLink_catchUp, State.offerLink_withLink_catchUp, State.catchUp_withInterface,
      State.offer_journal_congr (s := s) (t := { s with link := l }) rfl rfl]

/-- The state that a run of characters without framing errors leaves. -/
def State.receiveAll (s : State) (bytes : List Byte) : State :=
  bytes.foldl (fun u b => u.receive ⟨b, true⟩) s

theorem State.receiveAll_cons (s : State) (b : Byte) (bytes : List Byte) :
    s.receiveAll (b :: bytes) = (s.receive ⟨b, true⟩).receiveAll bytes := rfl

theorem State.receiveAll_append (s : State) (first second : List Byte) :
    s.receiveAll (first ++ second) = (s.receiveAll first).receiveAll second :=
  List.foldl_append

/-- The bytes of a body are stored one after another, and the last brings the receiver to CHECK. -/
theorem State.receiveAll_body {hi lo : Byte} (s : State) : ∀ (rest stored : List Byte), rest ≠ [] →
    stored.length + rest.length = hi.toNat * 256 + lo.toNat →
    (s.inFrame .body (hi :: lo :: stored)).receiveAll rest =
      s.inFrame .check (hi :: lo :: (stored ++ rest))
  | [], _, bytes, _ => absurd rfl bytes
  | [b], stored, _, whole => by
    rw [State.receiveAll_cons, State.receive_body rfl rfl rfl (by simp at whole ⊢; omega),
      if_pos (by simpa using whole)]
    rfl
  | b :: x :: rest, stored, _, whole => by
    have tail := State.receiveAll_body (hi := hi) (lo := lo) s (x :: rest) (stored ++ [b]) (List.cons_ne_nil x rest)
      (by simp at whole ⊢; omega)
    rw [State.receiveAll_cons, State.receive_body rfl rfl rfl (by simp at whole ⊢; omega),
      if_neg (by simp at whole ⊢; omega)]
    rw [List.append_assoc] at tail
    exact tail

/-- A whole good frame is handed to the Supervision Unit, and its body is offered to the queue. -/
theorem State.receiveAll_frameOf {s : State} {body : List Byte} (least : 1 ≤ body.length)
    (most : body.length ≤ 1024) (hunts : s.link.receiver = .hunt) :
    ∃ buffer, s.receiveAll (frameOf body) =
      { s.goodFrame with
        link :=
          ({ s.link with receiver := .hunt, buffer := buffer, gap := .stopped 0 } : LinkInterface).offerItem
            (.request body) } := by
  let hi := byteOf (body.length / 256)
  let lo := byteOf body.length
  let crc := crc16 (hi :: lo :: body)
  have length : hi.toNat * 256 + lo.toNat = body.length := byteOf_toNat_pair (by omega)
  have bytes : body ≠ [] := List.length_pos_iff.mp least
  have bodyStored := State.receiveAll_body s body [] bytes (by rw [length, List.length_nil, Nat.zero_add])
  have frame : frameOf body = 0xA5 :: hi :: lo :: (body ++ [byteOf (crc.toNat / 256), byteOf crc.toNat]) := rfl
  refine ⟨hi :: lo :: body ++ [byteOf (crc.toNat / 256)], ?_⟩
  have started : s.receive ⟨0xA5, true⟩ = s.inFrame .length [] := State.receive_start hunts rfl rfl
  have high : (s.inFrame .length []).receive ⟨hi, true⟩ = s.inFrame .length [hi] :=
    State.receive_lengthHigh rfl rfl rfl
  have low : (s.inFrame .length [hi]).receive ⟨lo, true⟩ = s.inFrame .body [hi, lo] :=
    State.receive_lengthLow rfl rfl rfl (length ▸ least) (length ▸ most)
  have check : (s.inFrame .check (hi :: lo :: body)).receive ⟨byteOf (crc.toNat / 256), true⟩ =
      s.inFrame .check (hi :: lo :: body ++ [byteOf (crc.toNat / 256)]) :=
    State.receive_checkHigh rfl length.symm rfl rfl
  have good : crc = byteOf (crc.toNat / 256) ++ byteOf crc.toNat := (halfOf_bytes crc).symm
  rw [frame, State.receiveAll_cons, started, State.receiveAll_cons, high, State.receiveAll_cons, low,
    State.receiveAll_append, bodyStored, State.receiveAll_cons, List.nil_append, check, State.receiveAll_cons,
    State.receive_checkLow rfl length.symm rfl rfl, if_pos good, State.inFrame, State.goodFrame_withInterface]
  rfl

/-- Settles O5: the frame is good, and its body finds room in the queue or none. -/
theorem receiverTakesAWholeFrame : Obligations.ReceiverTakesAWholeFrame := by
  intro body s least most hunts t
  obtain ⟨buffer, taken⟩ := State.receiveAll_frameOf least most hunts
  let l : LinkInterface := { s.link with receiver := .hunt, buffer := buffer, gap := .stopped 0 }
  have ends : t = { s.goodFrame with link := l.offerItem (.request body) } := taken
  obtain ⟨receiver, gap, reply⟩ := l.offerItem_frame (.request body)
  rw [ends]
  refine ⟨receiver, gap, reply, fun room => ?_, fun full => ?_, rfl⟩
  · rw [LinkInterface.offerItem_of_room (l := l) room]
    exact ⟨rfl, rfl⟩
  · rw [LinkInterface.offerItem_of_full (l := l) full]
    exact ⟨rfl, rfl⟩

end Sys2Proof.Machine

/-!
PROOFS. The queue of commands waiting outside the part: the step takes its front (O1), and no command changes it (O2).
-/

namespace Sys2Proof.Machine

/-- Settles O1, by the two forms of the queue. -/
theorem stepTakesTheFrontCommand : Obligations.StepTakesTheFrontCommand := by
  refine ⟨fun c rest s front => ?_, fun s idle => ?_⟩
  · rw [step, front]
  · rw [step, idle]

/-! ## How a command is taken (R173; log entry 4) -/

theorem State.pending_of_outside {s t : State} (h : t.outside = s.outside) : t.pending = s.pending :=
  congrArg Prod.fst h

section Takes

variable {s t : State} {f : State → State}

theorem State.takes_pending (leaves : (f s).pending = s.pending) (e : s.takes f = .next t) :
    t.pending = s.pending := by
  cases Host.Outcome.next.inj e
  split
  · rfl
  · exact leaves

theorem State.takesAfterDue_pending (leaves : ∀ u : State, (f u).pending = u.pending)
    (e : s.takesAfterDue f = .next t) : t.pending = s.pending :=
  State.takes_pending ((leaves s.atOnce).trans s.atOnce_frame.1) e

theorem State.takesAfterFollowUps_pending (leaves : ∀ u : State, (f u).pending = u.pending)
    (e : s.takesAfterFollowUps f = .next t) : t.pending = s.pending :=
  State.takes_pending ((leaves s.followUps).trans s.followUps_frame.1) e

theorem State.takesAfterPassStart_pending (leaves : ∀ u : State, (f u).pending = u.pending)
    (e : s.takesAfterPassStart f = .next t) : t.pending = s.pending :=
  State.takes_pending ((leaves s.startPass).trans s.startPass_frame.1) e

end Takes

/-! ## The commands -/

/-- A request that waits joins the part's own queue (R178). -/
theorem State.await_pending (s : State) (c : Instr) : (s.await c).pending = s.pending := by
  unfold State.await
  split <;> rfl

theorem State.countTick_pending (s : State) : s.countTick.pending = s.pending := rfl

theorem State.endPass_pending (s : State) : s.endPass.pending = s.pending := by
  unfold State.endPass
  split
  · rfl
  · next p _ => exact (s.completePass_frame p).1

theorem State.endResetReply_pending (s : State) : s.endResetReply.pending = s.pending := by
  unfold State.endResetReply
  split <;> rfl

theorem State.negateReset_pending (straps : Straps) (s : State) : (s.negateReset straps).pending = s.pending := by
  unfold State.negateReset
  dsimp only
  split <;> rfl

/-- A request command is the service of the body that spells it, or waits. -/
theorem exec_pending_of_request {c : Instr} {body : List Byte} {s t : State} (request : requestBody c = some body)
    (e : exec c s = .next t) : t.pending = s.pending := by
  obtain ⟨kind, payload, r, -, carried, taken⟩ := requestOf_requestBody request
  rw [taken] at e
  refine State.takesAfterDue_pending (fun u => ?_) e
  split
  · rw [← State.serveBody_of_request carried u]
    exact State.pending_of_outside (u.serveItem_outside (.request (kind :: payload)))
  · exact u.await_pending c

/-- An event of a block, a line or a pin: the lemma of what it does, after what comes before it. -/
theorem exec_pending_of_event {c : Instr} {s t : State} (event : requestBody c = none) (e : exec c s = .next t) :
    t.pending = s.pending := by
  cases c with
  | softwareReset => exact State.takesAfterDue_pending State.endResetReply_pending e
  | memoryTestCompletion passed =>
    exact State.takesAfterDue_pending (fun u => (u.completeMemoryTest_frame passed).1) e
  | deskSample pins => exact State.takesAfterFollowUps_pending (fun u => (u.sampleDesk_frame pins).1) e
  | tick =>
    exact State.takesAfterDue_pending
      (fun u => u.beforeTick.countTick_pending.trans (State.pending_of_outside u.beforeTick_outside)) e
  | prescaleExpiry generator =>
    exact State.takesAfterFollowUps_pending (fun u => (u.expirePrescale_frame generator).1) e
  | phaseToggle generator => exact State.takesAfterPassStart_pending (fun u => (u.togglePhase_frame generator).1) e
  | passStart => exact State.takes_pending s.startPass_frame.1 e
  | passCompletion => exact State.takesAfterDue_pending State.endPass_pending e
  | frameTimerExpiry loop => exact State.takesAfterFollowUps_pending (fun u => (u.expireFrameTimer_frame loop).1) e
  | frameStart loop => exact State.takesAfterPassStart_pending (fun u => (u.startFrame_frame loop).1) e
  | slotEnd loop window => exact State.takesAfterDue_pending (fun u => (u.endSlot_frame loop window).1) e
  | frameEnd loop => exact State.takesAfterDue_pending (fun u => (u.endFrame_frame loop).1) e
  | hostTimerExpiry => exact State.takesAfterFollowUps_pending (fun u => u.expireHostTimer_frame.1) e
  | linkCountdownExpiry => exact State.takesAfterFollowUps_pending (fun u => u.expireLink_frame.1) e
  | outstationCountdownExpiry outstation =>
    exact State.takesAfterFollowUps_pending (fun u => (u.expireOutstation_frame outstation).1) e
  | characterReceived char => exact State.takesAfterDue_pending (fun u => (u.receive_frame char).1) e
  | gapTimerExpiry => exact State.takesAfterFollowUps_pending (fun u => u.expireGap_frame.1) e
  | serviceBegin =>
    exact State.takesAfterDue_pending (fun u => State.pending_of_outside u.beginService_outside) e
  | hardwareResetAssert => exact Host.Outcome.next.inj e ▸ rfl
  | hardwareResetNegation straps => exact Host.Outcome.next.inj e ▸ s.negateReset_pending straps
  | _ => cases event

/-- Settles O2: a command is a request, with a body that spells it, or an event. -/
theorem commandsLeaveThePendingQueue : Obligations.CommandsLeaveThePendingQueue := by
  intro c s t e
  cases spelled : requestBody c with
  | some body => exact exec_pending_of_request spelled e
  | none => exact exec_pending_of_event spelled e

end Sys2Proof.Machine

/-!
PROOFS. The state after reset meets the invariants (O56): one lemma for each that is more than an initial value's own.
-/

namespace Sys2Proof.Machine

/-- The ring holds the reset entry alone, appended to an empty one (R160). -/
theorem State.reset_journal_sound : State.reset.journal.Sound :=
  (JournalUnit.sound_of_empty (j := JournalUnit.initial) rfl rfl).append 0
    (o := ⟨.mode, .reset, .none, 0xFF, 0x80, [], none⟩) (Nat.zero_le 64)

theorem State.reset_undefined (p : Nat) : State.reset.points.table.get? p = none := rfl

theorem State.reset_hornDerived : State.reset.HornDerived :=
  State.hornDerived_of_empty rfl rfl rfl

/-- OFFLINE, both loops STOPPED (R173). -/
theorem State.reset_modeLaw : State.reset.ModeLaw :=
  State.reset.modeLaw_iff.mpr (Modes.lawful_of_stopped rfl rfl rfl)

theorem State.reset_tablesCanonical : State.reset.TablesCanonical :=
  ⟨Sparse.wf_empty, Sparse.wf_empty, Sparse.wf_empty⟩

theorem State.reset_points_lawful : State.reset.points.Lawful :=
  fun p _ defined => nomatch (State.reset_undefined p).symm.trans defined

/-- Every lamp is FREE and no point is defined (R22). -/
theorem State.reset_ownersAgree : State.reset.points.OwnersAgree := by
  intro lamp p
  refine ⟨fun owned => (nomatch owned), fun ⟨_, defined, _⟩ => ?_⟩
  exact nomatch (State.reset_undefined p).symm.trans defined

theorem State.reset_list : State.reset.ListLaw ∧ State.reset.alarm.Ordered :=
  State.reset.listed_iff.mp
    (Board.listed_of_calm fun p _ defined => nomatch (State.reset_undefined p).symm.trans defined)

theorem State.reset_streaksLawful : State.reset.StreaksLawful := by
  refine ⟨provingLawful_empty, fun l => ?_⟩
  cases l with
  | a => exact tilesLawful_initial
  | b => exact tilesLawful_initial

/-- Sample period 4, the generators of Table 4-1, loop period 40. -/
theorem State.reset_settingsInRange : State.reset.SettingsInRange := by
  refine ⟨DeskUnit.initial_lawful _ _ (.inr (.inl rfl)), CadenceUnit.initial_lawful, fun l => ?_⟩
  cases l with
  | a => exact ⟨by decide, by decide⟩
  | b => exact ⟨by decide, by decide⟩

/-- Settles O56. -/
theorem resetMeetsTheInvariants : Obligations.ResetMeetsTheInvariants := by
  obtain ⟨journal, items⟩ := State.reset_journal_sound
  obtain ⟨list, ordered⟩ := State.reset_list
  exact ⟨journal, items, State.reset_hornDerived, State.reset_modeLaw, State.reset_tablesCanonical,
    State.reset_points_lawful, State.reset_ownersAgree, list, ordered, State.reset_streaksLawful,
    SupervisionUnit.initial_lawful false, Composer.initial_lawful, Nat.zero_le _, State.reset_settingsInRange⟩

end Sys2Proof.Machine
